-- ==== Sys2Proof/Word.lean ====
section
/-! DEFINITION. The widths of the block's values: an 8-bit register or buffer byte (R8, R9) and a 16-bit register (R7, register widths). -/

namespace Sys2Proof

/-- An 8-bit value: a register, a page number, a buffer byte, the data byte of a port access (R8, R78). -/
abbrev Byte := BitVec 8

/-- A 16-bit register such as `remote_dma` (R7, R30). -/
abbrev Word := BitVec 16

/-- A 6-byte station address, byte 0 first (R7 `MAC`, R35). -/
abbrev Mac := Vector Byte 6

end Sys2Proof
end

