-- ==== Sys2Proof/Syntax.lean ====
section
/-! DEFINITION. The port accesses of the block as terms: one constructor for each row of spec/opcode_table.json (R91).
A write carries its data byte `v`, the only operand an access has (R103); a read carries nothing. -/

namespace Sys2Proof

/-- A port access, decoded (R91 to R101). -/
inductive Instr where
  -- The command register, offset 0 of every page (R92).
  /-- RD_CR, K = 0x00 under mask 0x9F (R111). -/
  | rdCr
  /-- WR_CR, K = 0x80 under mask 0x9F (R112). -/
  | wrCr (v : Byte)
  -- Page 0 reads (R96).
  /-- RD_P0_CLDA0, K = 0x01 under mask 0xFF (R113). -/
  | rdP0Clda0
  /-- RD_P0_CLDA1, K = 0x02 under mask 0xFF (R114). -/
  | rdP0Clda1
  /-- RD_P0_BNRY, K = 0x03 under mask 0xFF (R115). -/
  | rdP0Bnry
  /-- RD_P0_TSR, K = 0x04 under mask 0xFF (R116). -/
  | rdP0Tsr
  /-- RD_P0_NCR, K = 0x05 under mask 0xFF (R117). -/
  | rdP0Ncr
  /-- RD_P0_FIFO, K = 0x06 under mask 0xFF (R118). -/
  | rdP0Fifo
  /-- RD_P0_ISR, K = 0x07 under mask 0xFF (R119). -/
  | rdP0Isr
  /-- RD_P0_CRDA0, K = 0x08 under mask 0xFF (R120). -/
  | rdP0Crda0
  /-- RD_P0_CRDA1, K = 0x09 under mask 0xFF (R121). -/
  | rdP0Crda1
  /-- RD_P0_RSV0A, K = 0x0A under mask 0xFF (R122). -/
  | rdP0Rsv0a
  /-- RD_P0_RSV0B, K = 0x0B under mask 0xFF (R123). -/
  | rdP0Rsv0b
  /-- RD_P0_RSR, K = 0x0C under mask 0xFF (R124). -/
  | rdP0Rsr
  /-- RD_P0_CNTR0, K = 0x0D under mask 0xFF (R125). -/
  | rdP0Cntr0
  /-- RD_P0_CNTR1, K = 0x0E under mask 0xFF (R126). -/
  | rdP0Cntr1
  /-- RD_P0_CNTR2, K = 0x0F under mask 0xFF (R127). -/
  | rdP0Cntr2
  -- Page 0 writes (R97).
  /-- WR_P0_PSTART, K = 0x81 under mask 0xFF (R128). -/
  | wrP0Pstart (v : Byte)
  /-- WR_P0_PSTOP, K = 0x82 under mask 0xFF (R129). -/
  | wrP0Pstop (v : Byte)
  /-- WR_P0_BNRY, K = 0x83 under mask 0xFF (R130). -/
  | wrP0Bnry (v : Byte)
  /-- WR_P0_TPSR, K = 0x84 under mask 0xFF (R131). -/
  | wrP0Tpsr (v : Byte)
  /-- WR_P0_TBCR0, K = 0x85 under mask 0xFF (R132). -/
  | wrP0Tbcr0 (v : Byte)
  /-- WR_P0_TBCR1, K = 0x86 under mask 0xFF (R133). -/
  | wrP0Tbcr1 (v : Byte)
  /-- WR_P0_ISR, K = 0x87 under mask 0xFF (R134). -/
  | wrP0Isr (v : Byte)
  /-- WR_P0_RSAR0, K = 0x88 under mask 0xFF (R135). -/
  | wrP0Rsar0 (v : Byte)
  /-- WR_P0_RSAR1, K = 0x89 under mask 0xFF (R136). -/
  | wrP0Rsar1 (v : Byte)
  /-- WR_P0_RBCR0, K = 0x8A under mask 0xFF (R137). -/
  | wrP0Rbcr0 (v : Byte)
  /-- WR_P0_RBCR1, K = 0x8B under mask 0xFF (R138). -/
  | wrP0Rbcr1 (v : Byte)
  /-- WR_P0_RCR, K = 0x8C under mask 0xFF (R139). -/
  | wrP0Rcr (v : Byte)
  /-- WR_P0_TCR, K = 0x8D under mask 0xFF (R140). -/
  | wrP0Tcr (v : Byte)
  /-- WR_P0_DCR, K = 0x8E under mask 0xFF (R141). -/
  | wrP0Dcr (v : Byte)
  /-- WR_P0_IMR, K = 0x8F under mask 0xFF (R142). -/
  | wrP0Imr (v : Byte)
  -- Page 1 reads (R98).
  /-- RD_P1_PAR0, K = 0x21 under mask 0xFF (R143). -/
  | rdP1Par0
  /-- RD_P1_PAR1, K = 0x22 under mask 0xFF (R144). -/
  | rdP1Par1
  /-- RD_P1_PAR2, K = 0x23 under mask 0xFF (R145). -/
  | rdP1Par2
  /-- RD_P1_PAR3, K = 0x24 under mask 0xFF (R146). -/
  | rdP1Par3
  /-- RD_P1_PAR4, K = 0x25 under mask 0xFF (R147). -/
  | rdP1Par4
  /-- RD_P1_PAR5, K = 0x26 under mask 0xFF (R148). -/
  | rdP1Par5
  /-- RD_P1_CURR, K = 0x27 under mask 0xFF (R149). -/
  | rdP1Curr
  /-- RD_P1_MAR0, K = 0x28 under mask 0xFF (R150). -/
  | rdP1Mar0
  /-- RD_P1_MAR1, K = 0x29 under mask 0xFF (R151). -/
  | rdP1Mar1
  /-- RD_P1_MAR2, K = 0x2A under mask 0xFF (R152). -/
  | rdP1Mar2
  /-- RD_P1_MAR3, K = 0x2B under mask 0xFF (R153). -/
  | rdP1Mar3
  /-- RD_P1_MAR4, K = 0x2C under mask 0xFF (R154). -/
  | rdP1Mar4
  /-- RD_P1_MAR5, K = 0x2D under mask 0xFF (R155). -/
  | rdP1Mar5
  /-- RD_P1_MAR6, K = 0x2E under mask 0xFF (R156). -/
  | rdP1Mar6
  /-- RD_P1_MAR7, K = 0x2F under mask 0xFF (R157). -/
  | rdP1Mar7
  -- Page 1 writes (R98).
  /-- WR_P1_PAR0, K = 0xA1 under mask 0xFF (R158). -/
  | wrP1Par0 (v : Byte)
  /-- WR_P1_PAR1, K = 0xA2 under mask 0xFF (R159). -/
  | wrP1Par1 (v : Byte)
  /-- WR_P1_PAR2, K = 0xA3 under mask 0xFF (R160). -/
  | wrP1Par2 (v : Byte)
  /-- WR_P1_PAR3, K = 0xA4 under mask 0xFF (R161). -/
  | wrP1Par3 (v : Byte)
  /-- WR_P1_PAR4, K = 0xA5 under mask 0xFF (R162). -/
  | wrP1Par4 (v : Byte)
  /-- WR_P1_PAR5, K = 0xA6 under mask 0xFF (R163). -/
  | wrP1Par5 (v : Byte)
  /-- WR_P1_CURR, K = 0xA7 under mask 0xFF (R164). -/
  | wrP1Curr (v : Byte)
  /-- WR_P1_MAR0, K = 0xA8 under mask 0xFF (R165). -/
  | wrP1Mar0 (v : Byte)
  /-- WR_P1_MAR1, K = 0xA9 under mask 0xFF (R166). -/
  | wrP1Mar1 (v : Byte)
  /-- WR_P1_MAR2, K = 0xAA under mask 0xFF (R167). -/
  | wrP1Mar2 (v : Byte)
  /-- WR_P1_MAR3, K = 0xAB under mask 0xFF (R168). -/
  | wrP1Mar3 (v : Byte)
  /-- WR_P1_MAR4, K = 0xAC under mask 0xFF (R169). -/
  | wrP1Mar4 (v : Byte)
  /-- WR_P1_MAR5, K = 0xAD under mask 0xFF (R170). -/
  | wrP1Mar5 (v : Byte)
  /-- WR_P1_MAR6, K = 0xAE under mask 0xFF (R171). -/
  | wrP1Mar6 (v : Byte)
  /-- WR_P1_MAR7, K = 0xAF under mask 0xFF (R172). -/
  | wrP1Mar7 (v : Byte)
  -- Page 2 reads (R99).
  /-- RD_P2_PSTART, K = 0x41 under mask 0xFF (R173). -/
  | rdP2Pstart
  /-- RD_P2_PSTOP, K = 0x42 under mask 0xFF (R174). -/
  | rdP2Pstop
  /-- RD_P2_RNPP, K = 0x43 under mask 0xFF (R175). -/
  | rdP2Rnpp
  /-- RD_P2_TPSR, K = 0x44 under mask 0xFF (R176). -/
  | rdP2Tpsr
  /-- RD_P2_LNPP, K = 0x45 under mask 0xFF (R177). -/
  | rdP2Lnpp
  /-- RD_P2_ACU, K = 0x46 under mask 0xFF (R178). -/
  | rdP2Acu
  /-- RD_P2_ACL, K = 0x47 under mask 0xFF (R179). -/
  | rdP2Acl
  /-- RD_P2_RSV8, K = 0x48 under mask 0xFF (R180). -/
  | rdP2Rsv8
  /-- RD_P2_RSV9, K = 0x49 under mask 0xFF (R180). -/
  | rdP2Rsv9
  /-- RD_P2_RSVA, K = 0x4A under mask 0xFF (R180). -/
  | rdP2Rsva
  /-- RD_P2_RSVB, K = 0x4B under mask 0xFF (R180). -/
  | rdP2Rsvb
  /-- RD_P2_RCR, K = 0x4C under mask 0xFF (R181). -/
  | rdP2Rcr
  /-- RD_P2_TCR, K = 0x4D under mask 0xFF (R182). -/
  | rdP2Tcr
  /-- RD_P2_DCR, K = 0x4E under mask 0xFF (R183). -/
  | rdP2Dcr
  /-- RD_P2_IMR, K = 0x4F under mask 0xFF (R184). -/
  | rdP2Imr
  -- Page 2 writes (R100).
  /-- WR_P2_CLDA0, K = 0xC1 under mask 0xFF (R185). -/
  | wrP2Clda0 (v : Byte)
  /-- WR_P2_CLDA1, K = 0xC2 under mask 0xFF (R186). -/
  | wrP2Clda1 (v : Byte)
  /-- WR_P2_RNPP, K = 0xC3 under mask 0xFF (R187). -/
  | wrP2Rnpp (v : Byte)
  /-- WR_P2_RSV4, K = 0xC4 under mask 0xFF (R188). -/
  | wrP2Rsv4 (v : Byte)
  /-- WR_P2_LNPP, K = 0xC5 under mask 0xFF (R189). -/
  | wrP2Lnpp (v : Byte)
  /-- WR_P2_ACU, K = 0xC6 under mask 0xFF (R190). -/
  | wrP2Acu (v : Byte)
  /-- WR_P2_ACL, K = 0xC7 under mask 0xFF (R191). -/
  | wrP2Acl (v : Byte)
  /-- WR_P2_RSV8, K = 0xC8 under mask 0xFF (R188). -/
  | wrP2Rsv8 (v : Byte)
  /-- WR_P2_RSV9, K = 0xC9 under mask 0xFF (R188). -/
  | wrP2Rsv9 (v : Byte)
  /-- WR_P2_RSVA, K = 0xCA under mask 0xFF (R188). -/
  | wrP2Rsva (v : Byte)
  /-- WR_P2_RSVB, K = 0xCB under mask 0xFF (R188). -/
  | wrP2Rsvb (v : Byte)
  /-- WR_P2_RSVC, K = 0xCC under mask 0xFF (R188). -/
  | wrP2Rsvc (v : Byte)
  /-- WR_P2_RSVD, K = 0xCD under mask 0xFF (R188). -/
  | wrP2Rsvd (v : Byte)
  /-- WR_P2_RSVE, K = 0xCE under mask 0xFF (R188). -/
  | wrP2Rsve (v : Byte)
  /-- WR_P2_RSVF, K = 0xCF under mask 0xFF (R188). -/
  | wrP2Rsvf (v : Byte)
  -- Page 3 reads (R101).
  /-- RD_P3_1, K = 0x61 under mask 0xFF (R192). -/
  | rdP31
  /-- RD_P3_2, K = 0x62 under mask 0xFF (R192). -/
  | rdP32
  /-- RD_P3_3, K = 0x63 under mask 0xFF (R192). -/
  | rdP33
  /-- RD_P3_4, K = 0x64 under mask 0xFF (R192). -/
  | rdP34
  /-- RD_P3_5, K = 0x65 under mask 0xFF (R192). -/
  | rdP35
  /-- RD_P3_6, K = 0x66 under mask 0xFF (R192). -/
  | rdP36
  /-- RD_P3_7, K = 0x67 under mask 0xFF (R192). -/
  | rdP37
  /-- RD_P3_8, K = 0x68 under mask 0xFF (R192). -/
  | rdP38
  /-- RD_P3_9, K = 0x69 under mask 0xFF (R192). -/
  | rdP39
  /-- RD_P3_A, K = 0x6A under mask 0xFF (R192). -/
  | rdP3A
  /-- RD_P3_B, K = 0x6B under mask 0xFF (R192). -/
  | rdP3B
  /-- RD_P3_C, K = 0x6C under mask 0xFF (R192). -/
  | rdP3C
  /-- RD_P3_D, K = 0x6D under mask 0xFF (R192). -/
  | rdP3D
  /-- RD_P3_E, K = 0x6E under mask 0xFF (R192). -/
  | rdP3E
  /-- RD_P3_F, K = 0x6F under mask 0xFF (R192). -/
  | rdP3F
  -- Page 3 writes (R101).
  /-- WR_P3_1, K = 0xE1 under mask 0xFF (R193). -/
  | wrP31 (v : Byte)
  /-- WR_P3_2, K = 0xE2 under mask 0xFF (R193). -/
  | wrP32 (v : Byte)
  /-- WR_P3_3, K = 0xE3 under mask 0xFF (R193). -/
  | wrP33 (v : Byte)
  /-- WR_P3_4, K = 0xE4 under mask 0xFF (R193). -/
  | wrP34 (v : Byte)
  /-- WR_P3_5, K = 0xE5 under mask 0xFF (R193). -/
  | wrP35 (v : Byte)
  /-- WR_P3_6, K = 0xE6 under mask 0xFF (R193). -/
  | wrP36 (v : Byte)
  /-- WR_P3_7, K = 0xE7 under mask 0xFF (R193). -/
  | wrP37 (v : Byte)
  /-- WR_P3_8, K = 0xE8 under mask 0xFF (R193). -/
  | wrP38 (v : Byte)
  /-- WR_P3_9, K = 0xE9 under mask 0xFF (R193). -/
  | wrP39 (v : Byte)
  /-- WR_P3_A, K = 0xEA under mask 0xFF (R193). -/
  | wrP3A (v : Byte)
  /-- WR_P3_B, K = 0xEB under mask 0xFF (R193). -/
  | wrP3B (v : Byte)
  /-- WR_P3_C, K = 0xEC under mask 0xFF (R193). -/
  | wrP3C (v : Byte)
  /-- WR_P3_D, K = 0xED under mask 0xFF (R193). -/
  | wrP3D (v : Byte)
  /-- WR_P3_E, K = 0xEE under mask 0xFF (R193). -/
  | wrP3E (v : Byte)
  /-- WR_P3_F, K = 0xEF under mask 0xFF (R193). -/
  | wrP3F (v : Byte)
  -- The data port, offsets 0x10..0x1E of every page: reads (R94, R200).
  /-- RD_DATA_10, K = 0x10 under mask 0x9F (R202). -/
  | rdData10
  /-- RD_DATA_11, K = 0x11 under mask 0x9F (R202). -/
  | rdData11
  /-- RD_DATA_12, K = 0x12 under mask 0x9F (R202). -/
  | rdData12
  /-- RD_DATA_13, K = 0x13 under mask 0x9F (R202). -/
  | rdData13
  /-- RD_DATA_14, K = 0x14 under mask 0x9F (R202). -/
  | rdData14
  /-- RD_DATA_15, K = 0x15 under mask 0x9F (R202). -/
  | rdData15
  /-- RD_DATA_16, K = 0x16 under mask 0x9F (R202). -/
  | rdData16
  /-- RD_DATA_17, K = 0x17 under mask 0x9F (R202). -/
  | rdData17
  /-- RD_DATA_18, K = 0x18 under mask 0x9F (R202). -/
  | rdData18
  /-- RD_DATA_19, K = 0x19 under mask 0x9F (R202). -/
  | rdData19
  /-- RD_DATA_1A, K = 0x1A under mask 0x9F (R202). -/
  | rdData1a
  /-- RD_DATA_1B, K = 0x1B under mask 0x9F (R202). -/
  | rdData1b
  /-- RD_DATA_1C, K = 0x1C under mask 0x9F (R202). -/
  | rdData1c
  /-- RD_DATA_1D, K = 0x1D under mask 0x9F (R202). -/
  | rdData1d
  /-- RD_DATA_1E, K = 0x1E under mask 0x9F (R202). -/
  | rdData1e
  -- The data port, offsets 0x10..0x1E of every page: writes (R94, R200).
  /-- WR_DATA_10, K = 0x90 under mask 0x9F (R203). -/
  | wrData10 (v : Byte)
  /-- WR_DATA_11, K = 0x91 under mask 0x9F (R203). -/
  | wrData11 (v : Byte)
  /-- WR_DATA_12, K = 0x92 under mask 0x9F (R203). -/
  | wrData12 (v : Byte)
  /-- WR_DATA_13, K = 0x93 under mask 0x9F (R203). -/
  | wrData13 (v : Byte)
  /-- WR_DATA_14, K = 0x94 under mask 0x9F (R203). -/
  | wrData14 (v : Byte)
  /-- WR_DATA_15, K = 0x95 under mask 0x9F (R203). -/
  | wrData15 (v : Byte)
  /-- WR_DATA_16, K = 0x96 under mask 0x9F (R203). -/
  | wrData16 (v : Byte)
  /-- WR_DATA_17, K = 0x97 under mask 0x9F (R203). -/
  | wrData17 (v : Byte)
  /-- WR_DATA_18, K = 0x98 under mask 0x9F (R203). -/
  | wrData18 (v : Byte)
  /-- WR_DATA_19, K = 0x99 under mask 0x9F (R203). -/
  | wrData19 (v : Byte)
  /-- WR_DATA_1A, K = 0x9A under mask 0x9F (R203). -/
  | wrData1a (v : Byte)
  /-- WR_DATA_1B, K = 0x9B under mask 0x9F (R203). -/
  | wrData1b (v : Byte)
  /-- WR_DATA_1C, K = 0x9C under mask 0x9F (R203). -/
  | wrData1c (v : Byte)
  /-- WR_DATA_1D, K = 0x9D under mask 0x9F (R203). -/
  | wrData1d (v : Byte)
  /-- WR_DATA_1E, K = 0x9E under mask 0x9F (R203). -/
  | wrData1e (v : Byte)
  -- The reset port, offset 0x1F of every page (R95).
  /-- RD_RESET, K = 0x1F under mask 0x9F (R209). -/
  | rdReset
  /-- WR_RESET, K = 0x9F under mask 0x9F (R210). -/
  | wrReset (v : Byte)
  deriving DecidableEq, Repr

end Sys2Proof
end

