-- ==== Sys2Proof/Decode.lean ====
section
/-! DEFINITION. The decoder of port accesses, written from the page maps R92 to R101, and after it the encoder, written from the match and mask of spec/opcode_table.json (R91).
An access is one descriptor byte `K`; a write is followed by its data byte (log entry 14). -/

namespace Sys2Proof

/-- The access descriptor `K` (R91): direction `d` (1 = write), page `pp`, port offset `ooooo`. -/
def descriptor (isWrite : Bool) (pp : BitVec 2) (off : BitVec 5) : Byte :=
  BitVec.ofBool isWrite ++ pp ++ off

/-- Bit `d` of a descriptor (R91): is the access a write? -/
def descriptorIsWrite (k : Byte) : Bool := k.getLsbD 7

/-- Field `pp` of a descriptor (R91). -/
def descriptorPage (k : Byte) : BitVec 2 := k.extractLsb' 5 2

/-- Field `ooooo` of a descriptor (R91). -/
def descriptorOffset (k : Byte) : BitVec 5 := k.extractLsb' 0 5

/-- Is the offset one that `pp` selects nothing for: CR, the data port, the reset port (R92, R94, R95)? -/
def ignoresPage (off : BitVec 5) : Bool := off == 0#5 || (16#5).ule off

/-- Reads that every page decodes alike (R92, R94, R95). -/
def decodeCommonRead (off : Nat) : Option Instr :=
  match off with
  | 0x00 => some .rdCr
  | 0x10 => some .rdData10
  | 0x11 => some .rdData11
  | 0x12 => some .rdData12
  | 0x13 => some .rdData13
  | 0x14 => some .rdData14
  | 0x15 => some .rdData15
  | 0x16 => some .rdData16
  | 0x17 => some .rdData17
  | 0x18 => some .rdData18
  | 0x19 => some .rdData19
  | 0x1A => some .rdData1a
  | 0x1B => some .rdData1b
  | 0x1C => some .rdData1c
  | 0x1D => some .rdData1d
  | 0x1E => some .rdData1e
  | 0x1F => some .rdReset
  | _ => none

/-- Writes that every page decodes alike (R92, R94, R95). -/
def decodeCommonWrite (off : Nat) (v : Byte) : Option Instr :=
  match off with
  | 0x00 => some (.wrCr v)
  | 0x10 => some (.wrData10 v)
  | 0x11 => some (.wrData11 v)
  | 0x12 => some (.wrData12 v)
  | 0x13 => some (.wrData13 v)
  | 0x14 => some (.wrData14 v)
  | 0x15 => some (.wrData15 v)
  | 0x16 => some (.wrData16 v)
  | 0x17 => some (.wrData17 v)
  | 0x18 => some (.wrData18 v)
  | 0x19 => some (.wrData19 v)
  | 0x1A => some (.wrData1a v)
  | 0x1B => some (.wrData1b v)
  | 0x1C => some (.wrData1c v)
  | 0x1D => some (.wrData1d v)
  | 0x1E => some (.wrData1e v)
  | 0x1F => some (.wrReset v)
  | _ => none

/-- The page-0 read map (R96). -/
def decodePage0Read (off : Nat) : Option Instr :=
  match off with
  | 0x01 => some .rdP0Clda0
  | 0x02 => some .rdP0Clda1
  | 0x03 => some .rdP0Bnry
  | 0x04 => some .rdP0Tsr
  | 0x05 => some .rdP0Ncr
  | 0x06 => some .rdP0Fifo
  | 0x07 => some .rdP0Isr
  | 0x08 => some .rdP0Crda0
  | 0x09 => some .rdP0Crda1
  | 0x0A => some .rdP0Rsv0a
  | 0x0B => some .rdP0Rsv0b
  | 0x0C => some .rdP0Rsr
  | 0x0D => some .rdP0Cntr0
  | 0x0E => some .rdP0Cntr1
  | 0x0F => some .rdP0Cntr2
  | _ => none

/-- The page-1 read map (R98). -/
def decodePage1Read (off : Nat) : Option Instr :=
  match off with
  | 0x01 => some .rdP1Par0
  | 0x02 => some .rdP1Par1
  | 0x03 => some .rdP1Par2
  | 0x04 => some .rdP1Par3
  | 0x05 => some .rdP1Par4
  | 0x06 => some .rdP1Par5
  | 0x07 => some .rdP1Curr
  | 0x08 => some .rdP1Mar0
  | 0x09 => some .rdP1Mar1
  | 0x0A => some .rdP1Mar2
  | 0x0B => some .rdP1Mar3
  | 0x0C => some .rdP1Mar4
  | 0x0D => some .rdP1Mar5
  | 0x0E => some .rdP1Mar6
  | 0x0F => some .rdP1Mar7
  | _ => none

/-- The page-2 read map (R99). -/
def decodePage2Read (off : Nat) : Option Instr :=
  match off with
  | 0x01 => some .rdP2Pstart
  | 0x02 => some .rdP2Pstop
  | 0x03 => some .rdP2Rnpp
  | 0x04 => some .rdP2Tpsr
  | 0x05 => some .rdP2Lnpp
  | 0x06 => some .rdP2Acu
  | 0x07 => some .rdP2Acl
  | 0x08 => some .rdP2Rsv8
  | 0x09 => some .rdP2Rsv9
  | 0x0A => some .rdP2Rsva
  | 0x0B => some .rdP2Rsvb
  | 0x0C => some .rdP2Rcr
  | 0x0D => some .rdP2Tcr
  | 0x0E => some .rdP2Dcr
  | 0x0F => some .rdP2Imr
  | _ => none

/-- The page-3 read map (R101). -/
def decodePage3Read (off : Nat) : Option Instr :=
  match off with
  | 0x01 => some .rdP31
  | 0x02 => some .rdP32
  | 0x03 => some .rdP33
  | 0x04 => some .rdP34
  | 0x05 => some .rdP35
  | 0x06 => some .rdP36
  | 0x07 => some .rdP37
  | 0x08 => some .rdP38
  | 0x09 => some .rdP39
  | 0x0A => some .rdP3A
  | 0x0B => some .rdP3B
  | 0x0C => some .rdP3C
  | 0x0D => some .rdP3D
  | 0x0E => some .rdP3E
  | 0x0F => some .rdP3F
  | _ => none

/-- The page-0 write map (R97). -/
def decodePage0Write (off : Nat) (v : Byte) : Option Instr :=
  match off with
  | 0x01 => some (.wrP0Pstart v)
  | 0x02 => some (.wrP0Pstop v)
  | 0x03 => some (.wrP0Bnry v)
  | 0x04 => some (.wrP0Tpsr v)
  | 0x05 => some (.wrP0Tbcr0 v)
  | 0x06 => some (.wrP0Tbcr1 v)
  | 0x07 => some (.wrP0Isr v)
  | 0x08 => some (.wrP0Rsar0 v)
  | 0x09 => some (.wrP0Rsar1 v)
  | 0x0A => some (.wrP0Rbcr0 v)
  | 0x0B => some (.wrP0Rbcr1 v)
  | 0x0C => some (.wrP0Rcr v)
  | 0x0D => some (.wrP0Tcr v)
  | 0x0E => some (.wrP0Dcr v)
  | 0x0F => some (.wrP0Imr v)
  | _ => none

/-- The page-1 write map (R98). -/
def decodePage1Write (off : Nat) (v : Byte) : Option Instr :=
  match off with
  | 0x01 => some (.wrP1Par0 v)
  | 0x02 => some (.wrP1Par1 v)
  | 0x03 => some (.wrP1Par2 v)
  | 0x04 => some (.wrP1Par3 v)
  | 0x05 => some (.wrP1Par4 v)
  | 0x06 => some (.wrP1Par5 v)
  | 0x07 => some (.wrP1Curr v)
  | 0x08 => some (.wrP1Mar0 v)
  | 0x09 => some (.wrP1Mar1 v)
  | 0x0A => some (.wrP1Mar2 v)
  | 0x0B => some (.wrP1Mar3 v)
  | 0x0C => some (.wrP1Mar4 v)
  | 0x0D => some (.wrP1Mar5 v)
  | 0x0E => some (.wrP1Mar6 v)
  | 0x0F => some (.wrP1Mar7 v)
  | _ => none

/-- The page-2 write map (R100). -/
def decodePage2Write (off : Nat) (v : Byte) : Option Instr :=
  match off with
  | 0x01 => some (.wrP2Clda0 v)
  | 0x02 => some (.wrP2Clda1 v)
  | 0x03 => some (.wrP2Rnpp v)
  | 0x04 => some (.wrP2Rsv4 v)
  | 0x05 => some (.wrP2Lnpp v)
  | 0x06 => some (.wrP2Acu v)
  | 0x07 => some (.wrP2Acl v)
  | 0x08 => some (.wrP2Rsv8 v)
  | 0x09 => some (.wrP2Rsv9 v)
  | 0x0A => some (.wrP2Rsva v)
  | 0x0B => some (.wrP2Rsvb v)
  | 0x0C => some (.wrP2Rsvc v)
  | 0x0D => some (.wrP2Rsvd v)
  | 0x0E => some (.wrP2Rsve v)
  | 0x0F => some (.wrP2Rsvf v)
  | _ => none

/-- The page-3 write map (R101). -/
def decodePage3Write (off : Nat) (v : Byte) : Option Instr :=
  match off with
  | 0x01 => some (.wrP31 v)
  | 0x02 => some (.wrP32 v)
  | 0x03 => some (.wrP33 v)
  | 0x04 => some (.wrP34 v)
  | 0x05 => some (.wrP35 v)
  | 0x06 => some (.wrP36 v)
  | 0x07 => some (.wrP37 v)
  | 0x08 => some (.wrP38 v)
  | 0x09 => some (.wrP39 v)
  | 0x0A => some (.wrP3A v)
  | 0x0B => some (.wrP3B v)
  | 0x0C => some (.wrP3C v)
  | 0x0D => some (.wrP3D v)
  | 0x0E => some (.wrP3E v)
  | 0x0F => some (.wrP3F v)
  | _ => none

/-- Offsets 1..15 are routed by the page (R93), reads. -/
def decodePagedRead (pp : BitVec 2) (off : Nat) : Option Instr :=
  match pp.toNat with
  | 0 => decodePage0Read off
  | 1 => decodePage1Read off
  | 2 => decodePage2Read off
  | _ => decodePage3Read off

/-- Offsets 1..15 are routed by the page (R93), writes. -/
def decodePagedWrite (pp : BitVec 2) (off : Nat) (v : Byte) : Option Instr :=
  match pp.toNat with
  | 0 => decodePage0Write off v
  | 1 => decodePage1Write off v
  | 2 => decodePage2Write off v
  | _ => decodePage3Write off v

/-- The access a descriptor `k` stands for, `v` being its data byte if it is a write (R91 to R101). R108 says it is never `none`. -/
def decodeAccess (k v : Byte) : Option Instr :=
  let off := descriptorOffset k
  match descriptorIsWrite k, ignoresPage off with
  | false, true => decodeCommonRead off.toNat
  | true, true => decodeCommonWrite off.toNat v
  | false, false => decodePagedRead (descriptorPage k) off.toNat
  | true, false => decodePagedWrite (descriptorPage k) off.toNat v

/-- Why a byte list is not an access. -/
inductive DecodeError where
  /-- The list is empty. -/
  | noDescriptor
  /-- The descriptor says write and no data byte follows. -/
  | noDataByte
  /-- The descriptor is in no page map; R108 says this never happens. -/
  | unassigned
  deriving DecidableEq, Repr

/-- Decode the first access of a byte list: a descriptor, and the data byte of a write. Total on any bytes, rejecting by name. -/
def decode (bytes : List Byte) : Except DecodeError (Instr × List Byte) :=
  match bytes with
  | [] => .error .noDescriptor
  | k :: rest =>
    match descriptorIsWrite k, rest with
    | true, [] => .error .noDataByte
    | true, v :: rest' =>
      match decodeAccess k v with
      | some i => .ok (i, rest')
      | none => .error .unassigned
    | false, rest' =>
      match decodeAccess k 0 with
      | some i => .ok (i, rest')
      | none => .error .unassigned

/-- The `match` column of spec/opcode_table.json. -/
def Instr.pattern (i : Instr) : Byte :=
  match i with
  | .rdCr => 0x00
  | .wrCr _ => 0x80
  | .rdP0Clda0 => 0x01
  | .rdP0Clda1 => 0x02
  | .rdP0Bnry => 0x03
  | .rdP0Tsr => 0x04
  | .rdP0Ncr => 0x05
  | .rdP0Fifo => 0x06
  | .rdP0Isr => 0x07
  | .rdP0Crda0 => 0x08
  | .rdP0Crda1 => 0x09
  | .rdP0Rsv0a => 0x0A
  | .rdP0Rsv0b => 0x0B
  | .rdP0Rsr => 0x0C
  | .rdP0Cntr0 => 0x0D
  | .rdP0Cntr1 => 0x0E
  | .rdP0Cntr2 => 0x0F
  | .wrP0Pstart _ => 0x81
  | .wrP0Pstop _ => 0x82
  | .wrP0Bnry _ => 0x83
  | .wrP0Tpsr _ => 0x84
  | .wrP0Tbcr0 _ => 0x85
  | .wrP0Tbcr1 _ => 0x86
  | .wrP0Isr _ => 0x87
  | .wrP0Rsar0 _ => 0x88
  | .wrP0Rsar1 _ => 0x89
  | .wrP0Rbcr0 _ => 0x8A
  | .wrP0Rbcr1 _ => 0x8B
  | .wrP0Rcr _ => 0x8C
  | .wrP0Tcr _ => 0x8D
  | .wrP0Dcr _ => 0x8E
  | .wrP0Imr _ => 0x8F
  | .rdP1Par0 => 0x21
  | .rdP1Par1 => 0x22
  | .rdP1Par2 => 0x23
  | .rdP1Par3 => 0x24
  | .rdP1Par4 => 0x25
  | .rdP1Par5 => 0x26
  | .rdP1Curr => 0x27
  | .rdP1Mar0 => 0x28
  | .rdP1Mar1 => 0x29
  | .rdP1Mar2 => 0x2A
  | .rdP1Mar3 => 0x2B
  | .rdP1Mar4 => 0x2C
  | .rdP1Mar5 => 0x2D
  | .rdP1Mar6 => 0x2E
  | .rdP1Mar7 => 0x2F
  | .wrP1Par0 _ => 0xA1
  | .wrP1Par1 _ => 0xA2
  | .wrP1Par2 _ => 0xA3
  | .wrP1Par3 _ => 0xA4
  | .wrP1Par4 _ => 0xA5
  | .wrP1Par5 _ => 0xA6
  | .wrP1Curr _ => 0xA7
  | .wrP1Mar0 _ => 0xA8
  | .wrP1Mar1 _ => 0xA9
  | .wrP1Mar2 _ => 0xAA
  | .wrP1Mar3 _ => 0xAB
  | .wrP1Mar4 _ => 0xAC
  | .wrP1Mar5 _ => 0xAD
  | .wrP1Mar6 _ => 0xAE
  | .wrP1Mar7 _ => 0xAF
  | .rdP2Pstart => 0x41
  | .rdP2Pstop => 0x42
  | .rdP2Rnpp => 0x43
  | .rdP2Tpsr => 0x44
  | .rdP2Lnpp => 0x45
  | .rdP2Acu => 0x46
  | .rdP2Acl => 0x47
  | .rdP2Rsv8 => 0x48
  | .rdP2Rsv9 => 0x49
  | .rdP2Rsva => 0x4A
  | .rdP2Rsvb => 0x4B
  | .rdP2Rcr => 0x4C
  | .rdP2Tcr => 0x4D
  | .rdP2Dcr => 0x4E
  | .rdP2Imr => 0x4F
  | .wrP2Clda0 _ => 0xC1
  | .wrP2Clda1 _ => 0xC2
  | .wrP2Rnpp _ => 0xC3
  | .wrP2Rsv4 _ => 0xC4
  | .wrP2Lnpp _ => 0xC5
  | .wrP2Acu _ => 0xC6
  | .wrP2Acl _ => 0xC7
  | .wrP2Rsv8 _ => 0xC8
  | .wrP2Rsv9 _ => 0xC9
  | .wrP2Rsva _ => 0xCA
  | .wrP2Rsvb _ => 0xCB
  | .wrP2Rsvc _ => 0xCC
  | .wrP2Rsvd _ => 0xCD
  | .wrP2Rsve _ => 0xCE
  | .wrP2Rsvf _ => 0xCF
  | .rdP31 => 0x61
  | .rdP32 => 0x62
  | .rdP33 => 0x63
  | .rdP34 => 0x64
  | .rdP35 => 0x65
  | .rdP36 => 0x66
  | .rdP37 => 0x67
  | .rdP38 => 0x68
  | .rdP39 => 0x69
  | .rdP3A => 0x6A
  | .rdP3B => 0x6B
  | .rdP3C => 0x6C
  | .rdP3D => 0x6D
  | .rdP3E => 0x6E
  | .rdP3F => 0x6F
  | .wrP31 _ => 0xE1
  | .wrP32 _ => 0xE2
  | .wrP33 _ => 0xE3
  | .wrP34 _ => 0xE4
  | .wrP35 _ => 0xE5
  | .wrP36 _ => 0xE6
  | .wrP37 _ => 0xE7
  | .wrP38 _ => 0xE8
  | .wrP39 _ => 0xE9
  | .wrP3A _ => 0xEA
  | .wrP3B _ => 0xEB
  | .wrP3C _ => 0xEC
  | .wrP3D _ => 0xED
  | .wrP3E _ => 0xEE
  | .wrP3F _ => 0xEF
  | .rdData10 => 0x10
  | .rdData11 => 0x11
  | .rdData12 => 0x12
  | .rdData13 => 0x13
  | .rdData14 => 0x14
  | .rdData15 => 0x15
  | .rdData16 => 0x16
  | .rdData17 => 0x17
  | .rdData18 => 0x18
  | .rdData19 => 0x19
  | .rdData1a => 0x1A
  | .rdData1b => 0x1B
  | .rdData1c => 0x1C
  | .rdData1d => 0x1D
  | .rdData1e => 0x1E
  | .wrData10 _ => 0x90
  | .wrData11 _ => 0x91
  | .wrData12 _ => 0x92
  | .wrData13 _ => 0x93
  | .wrData14 _ => 0x94
  | .wrData15 _ => 0x95
  | .wrData16 _ => 0x96
  | .wrData17 _ => 0x97
  | .wrData18 _ => 0x98
  | .wrData19 _ => 0x99
  | .wrData1a _ => 0x9A
  | .wrData1b _ => 0x9B
  | .wrData1c _ => 0x9C
  | .wrData1d _ => 0x9D
  | .wrData1e _ => 0x9E
  | .rdReset => 0x1F
  | .wrReset _ => 0x9F

/-- The `mask` column of spec/opcode_table.json: 0x9F where `pp` is ignored, 0xFF elsewhere (R91, R92). -/
def Instr.mask (i : Instr) : Byte :=
  if ignoresPage (descriptorOffset i.pattern) then 0x9F else 0xFF

/-- The data byte of a write; none for a read (R103). -/
def Instr.dataByte (i : Instr) : Option Byte :=
  match i with
  | .rdCr => none
  | .wrCr v => some v
  | .rdP0Clda0 => none
  | .rdP0Clda1 => none
  | .rdP0Bnry => none
  | .rdP0Tsr => none
  | .rdP0Ncr => none
  | .rdP0Fifo => none
  | .rdP0Isr => none
  | .rdP0Crda0 => none
  | .rdP0Crda1 => none
  | .rdP0Rsv0a => none
  | .rdP0Rsv0b => none
  | .rdP0Rsr => none
  | .rdP0Cntr0 => none
  | .rdP0Cntr1 => none
  | .rdP0Cntr2 => none
  | .wrP0Pstart v => some v
  | .wrP0Pstop v => some v
  | .wrP0Bnry v => some v
  | .wrP0Tpsr v => some v
  | .wrP0Tbcr0 v => some v
  | .wrP0Tbcr1 v => some v
  | .wrP0Isr v => some v
  | .wrP0Rsar0 v => some v
  | .wrP0Rsar1 v => some v
  | .wrP0Rbcr0 v => some v
  | .wrP0Rbcr1 v => some v
  | .wrP0Rcr v => some v
  | .wrP0Tcr v => some v
  | .wrP0Dcr v => some v
  | .wrP0Imr v => some v
  | .rdP1Par0 => none
  | .rdP1Par1 => none
  | .rdP1Par2 => none
  | .rdP1Par3 => none
  | .rdP1Par4 => none
  | .rdP1Par5 => none
  | .rdP1Curr => none
  | .rdP1Mar0 => none
  | .rdP1Mar1 => none
  | .rdP1Mar2 => none
  | .rdP1Mar3 => none
  | .rdP1Mar4 => none
  | .rdP1Mar5 => none
  | .rdP1Mar6 => none
  | .rdP1Mar7 => none
  | .wrP1Par0 v => some v
  | .wrP1Par1 v => some v
  | .wrP1Par2 v => some v
  | .wrP1Par3 v => some v
  | .wrP1Par4 v => some v
  | .wrP1Par5 v => some v
  | .wrP1Curr v => some v
  | .wrP1Mar0 v => some v
  | .wrP1Mar1 v => some v
  | .wrP1Mar2 v => some v
  | .wrP1Mar3 v => some v
  | .wrP1Mar4 v => some v
  | .wrP1Mar5 v => some v
  | .wrP1Mar6 v => some v
  | .wrP1Mar7 v => some v
  | .rdP2Pstart => none
  | .rdP2Pstop => none
  | .rdP2Rnpp => none
  | .rdP2Tpsr => none
  | .rdP2Lnpp => none
  | .rdP2Acu => none
  | .rdP2Acl => none
  | .rdP2Rsv8 => none
  | .rdP2Rsv9 => none
  | .rdP2Rsva => none
  | .rdP2Rsvb => none
  | .rdP2Rcr => none
  | .rdP2Tcr => none
  | .rdP2Dcr => none
  | .rdP2Imr => none
  | .wrP2Clda0 v => some v
  | .wrP2Clda1 v => some v
  | .wrP2Rnpp v => some v
  | .wrP2Rsv4 v => some v
  | .wrP2Lnpp v => some v
  | .wrP2Acu v => some v
  | .wrP2Acl v => some v
  | .wrP2Rsv8 v => some v
  | .wrP2Rsv9 v => some v
  | .wrP2Rsva v => some v
  | .wrP2Rsvb v => some v
  | .wrP2Rsvc v => some v
  | .wrP2Rsvd v => some v
  | .wrP2Rsve v => some v
  | .wrP2Rsvf v => some v
  | .rdP31 => none
  | .rdP32 => none
  | .rdP33 => none
  | .rdP34 => none
  | .rdP35 => none
  | .rdP36 => none
  | .rdP37 => none
  | .rdP38 => none
  | .rdP39 => none
  | .rdP3A => none
  | .rdP3B => none
  | .rdP3C => none
  | .rdP3D => none
  | .rdP3E => none
  | .rdP3F => none
  | .wrP31 v => some v
  | .wrP32 v => some v
  | .wrP33 v => some v
  | .wrP34 v => some v
  | .wrP35 v => some v
  | .wrP36 v => some v
  | .wrP37 v => some v
  | .wrP38 v => some v
  | .wrP39 v => some v
  | .wrP3A v => some v
  | .wrP3B v => some v
  | .wrP3C v => some v
  | .wrP3D v => some v
  | .wrP3E v => some v
  | .wrP3F v => some v
  | .rdData10 => none
  | .rdData11 => none
  | .rdData12 => none
  | .rdData13 => none
  | .rdData14 => none
  | .rdData15 => none
  | .rdData16 => none
  | .rdData17 => none
  | .rdData18 => none
  | .rdData19 => none
  | .rdData1a => none
  | .rdData1b => none
  | .rdData1c => none
  | .rdData1d => none
  | .rdData1e => none
  | .wrData10 v => some v
  | .wrData11 v => some v
  | .wrData12 v => some v
  | .wrData13 v => some v
  | .wrData14 v => some v
  | .wrData15 v => some v
  | .wrData16 v => some v
  | .wrData17 v => some v
  | .wrData18 v => some v
  | .wrData19 v => some v
  | .wrData1a v => some v
  | .wrData1b v => some v
  | .wrData1c v => some v
  | .wrData1d v => some v
  | .wrData1e v => some v
  | .rdReset => none
  | .wrReset v => some v

/-- The words of an access: its descriptor, with `pp` = 0 where it is ignored, and the data byte of a write (R91, R106). -/
def encode (i : Instr) : List Byte := i.pattern :: i.dataByte.toList

/-- What the decoder reads from a word numbered as spec/opcode_table.json numbers its bits: the descriptor in bits 7..0, the data byte of a write in bits 15..8; bits from `nbits` up are 0. -/
def decodeTableWord (nbits w : Nat) : Option Instr :=
  let bits := w % 2 ^ nbits
  match decode [BitVec.ofNat 8 bits, BitVec.ofNat 8 (bits / 256)] with
  | .ok (i, _) => some i
  | .error _ => none

end Sys2Proof
end

