-- ==== Sys2Proof/Config.lean ====
section
/-! DEFINITION. The implementation parameters of R7 and the free values of R11.
The parameters are plain data, held in the state's field `cfg`, so a statement about every state is a statement about every value of them (log entry 5). -/

namespace Sys2Proof

/-- `SENDPKT_MODE` (R7, R208, D16): what a CR write with `rdma_cmd` = 3 does. -/
inductive SendpktMode where
  | none
  | ds8390
  deriving DecidableEq, Repr

/-- The parameters a model of the block takes (R7). `IRQ_LINE` and `MAC` are bound by `init` (R291) and stand in the state. -/
structure Config where
  /-- `B`, the I/O base address of the block (R7, R85). -/
  ioBase : Nat
  /-- `MEMSTART`, the first backed buffer address (R7, D1). -/
  memStart : Nat
  /-- `TX_DEFERRED`: transmit completion is a separate step (R7, D20). -/
  txDeferred : Bool
  /-- `SENDPKT_MODE` (R7, D16). -/
  sendpktMode : SendpktMode
  /-- The bytes of `ReservedRead(page, off)`, at index `page * 16 + off` (R7, D28). Only reserved reads look at it. -/
  reserved : Vector Byte 64
  deriving DecidableEq, Repr

/-- `MEMSIZE`, 16 KiB of buffer memory (R7, R40). -/
abbrev memSize : Nat := 16384

/-- `MEMEND = MEMSTART + MEMSIZE` (R7): one past the last backed buffer address. -/
def Config.memEnd (c : Config) : Nat := c.memStart + memSize

/-- `Draw()` (R11): the `n`-th free byte of a run. It has no body, so nothing can be proved about its value (log entry 10). -/
opaque Config.freeByte : Nat → Byte

/-- The `ReservedRead` bytes of the block that stands in `State.reset`. R7 and D28 leave them open; there is no body (log entry 9). -/
opaque Config.reservedAtConstruction : Vector Byte 64

end Sys2Proof
end

