-- ==== Sys2Proof/Machine/State.lean ====
section
/-! DEFINITION. The block's state as plain data (R20 to R43), the events its agents perform (R6), the faults and refusals, and the state after reset.
The eight status and control registers are stored as their named fields; a bit with no field does not exist here (section 2 of 10_state.md, D8), and Machine/Operands.lean gives the byte layouts. -/

namespace Sys2Proof.Machine

/-- CR, the command register (R21). -/
structure Cr where
  /-- `pgsel`, bits 7:6: the page that offsets 1..15 reach (R51, R93). -/
  pgsel : BitVec 2 := 0
  /-- `rdma_cmd`, bits 5:3. -/
  rdmaCmd : BitVec 3 := 0
  /-- `tx_packet`, bit 2. -/
  txPacket : Bool := false
  /-- `start`, bit 1. -/
  start : Bool := false
  /-- `stop`, bit 0. -/
  stop : Bool := false
  deriving DecidableEq, Repr

/-- ISR, the interrupt status register (R22). -/
structure Isr where
  /-- `pkt_rx`, bit 0. -/
  pktRx : Bool := false
  /-- `pkt_tx`, bit 1. -/
  pktTx : Bool := false
  /-- `rx_err`, bit 2. -/
  rxErr : Bool := false
  /-- `tx_err`, bit 3. -/
  txErr : Bool := false
  /-- `overwrite`, bit 4. -/
  overwrite : Bool := false
  /-- `cnt_oflow`, bit 5. -/
  cntOflow : Bool := false
  /-- `rdma_done`, bit 6. -/
  rdmaDone : Bool := false
  /-- `reset`, bit 7. -/
  reset : Bool := false
  deriving DecidableEq, Repr

/-- IMR, the interrupt mask register (R23); bit 7 is reserved. -/
structure Imr where
  /-- `rx_inte`, bit 0. -/
  rxInte : Bool := false
  /-- `tx_inte`, bit 1. -/
  txInte : Bool := false
  /-- `rxerr_inte`, bit 2. -/
  rxerrInte : Bool := false
  /-- `txerr_inte`, bit 3. -/
  txerrInte : Bool := false
  /-- `overw_inte`, bit 4. -/
  overwInte : Bool := false
  /-- `cofl_inte`, bit 5. -/
  coflInte : Bool := false
  /-- `rdma_inte`, bit 6. -/
  rdmaInte : Bool := false
  deriving DecidableEq, Repr

/-- DCR, the data configuration register (R24); bit 7 is reserved. -/
structure Dcr where
  /-- `wdsize`, bit 0. -/
  wdsize : Bool := false
  /-- `endian`, bit 1. -/
  endian : Bool := false
  /-- `longaddr`, bit 2. -/
  longaddr : Bool := false
  /-- `loop`, bit 3. -/
  loop : Bool := false
  /-- `auto_rx`, bit 4. -/
  autoRx : Bool := false
  /-- `fifo_size`, bits 6:5. -/
  fifoSize : BitVec 2 := 0
  deriving DecidableEq, Repr

/-- TCR, the transmit configuration register (R25); bits 7:5 are reserved. -/
structure Tcr where
  /-- `crc_disable`, bit 0. -/
  crcDisable : Bool := false
  /-- `loop_cntl`, bits 2:1. -/
  loopCntl : BitVec 2 := 0
  /-- `ext_stoptx`, bit 3. -/
  extStoptx : Bool := false
  /-- `coll_prio`, bit 4. -/
  collPrio : Bool := false
  deriving DecidableEq, Repr

/-- TSR, the transmit status register (R26); bit 1 is reserved. -/
structure Tsr where
  /-- `tx_ok`, bit 0. -/
  txOk : Bool := false
  /-- `collided`, bit 2. -/
  collided : Bool := false
  /-- `aborted`, bit 3. -/
  aborted : Bool := false
  /-- `no_carrier`, bit 4. -/
  noCarrier : Bool := false
  /-- `fifo_ur`, bit 5. -/
  fifoUr : Bool := false
  /-- `cd_hbeat`, bit 6. -/
  cdHbeat : Bool := false
  /-- `ow_coll`, bit 7. -/
  owColl : Bool := false
  deriving DecidableEq, Repr

/-- RCR, the receive configuration register (R27); bits 7:6 are reserved. -/
structure Rcr where
  /-- `errors_ok`, bit 0. -/
  errorsOk : Bool := false
  /-- `runts_ok`, bit 1. -/
  runtsOk : Bool := false
  /-- `broadcast`, bit 2. -/
  broadcast : Bool := false
  /-- `multicast`, bit 3. -/
  multicast : Bool := false
  /-- `promisc`, bit 4. -/
  promisc : Bool := false
  /-- `monitor`, bit 5. -/
  monitor : Bool := false
  deriving DecidableEq, Repr

/-- RSR, the receive status register (R28). -/
structure Rsr where
  /-- `rx_ok`, bit 0. -/
  rxOk : Bool := false
  /-- `bad_crc`, bit 1. -/
  badCrc : Bool := false
  /-- `bad_falign`, bit 2. -/
  badFalign : Bool := false
  /-- `fifo_or`, bit 3. -/
  fifoOr : Bool := false
  /-- `rx_missed`, bit 4. -/
  rxMissed : Bool := false
  /-- `rx_mbit`, bit 5. -/
  rxMbit : Bool := false
  /-- `rx_disabled`, bit 6. -/
  rxDisabled : Bool := false
  /-- `deferred`, bit 7. -/
  deferred : Bool := false
  deriving DecidableEq, Repr

/-- The page-3 registers, which no access reaches (R38, R192, R193). -/
structure PageThree where
  /-- `cr3`. -/
  cr3 : Byte := 0
  /-- `i9346cr`. -/
  i9346cr : Byte := 0
  /-- `config0`. -/
  config0 : Byte := 0
  /-- `config1`. -/
  config1 : Byte := 0
  /-- `config2`. -/
  config2 : Byte := 0
  /-- `config3`. -/
  config3 : Byte := 0
  /-- `i8029asid0`. -/
  i8029asid0 : Byte := 0
  /-- `i8029asid1`. -/
  i8029asid1 : Byte := 0
  /-- `hltclk`. -/
  hltclk : Byte := 0
  deriving DecidableEq, Repr

/-- The buffer memory `mem[0..MEMSIZE-1]` (R40) as its nonzero bytes: pairs of an index and a byte, indexes strictly rising, no byte 0; an index that is not listed reads 0x00, the byte reset leaves everywhere (R40, R290; log entry 17). -/
abbrev Memory := List Host.Cell

/-- One step of an agent of the block (R6). -/
inductive Event where
  /-- The port agent reads one byte at an I/O port. -/
  | read (port : Nat)
  /-- The port agent writes one byte at an I/O port. -/
  | write (port : Nat) (v : Byte)
  /-- The transport agent delivers one frame: `frame HEX...` (R106, R220). -/
  | frame (bytes : List Byte)
  /-- The transmit-completion agent completes the pending transmission: `txdone` (R106, R257). -/
  | txdone
  /-- The platform constructs and initialises the block: `init MAC, IRQ` (R106, R291). -/
  | init (mac : Mac) (irq : Nat)
  deriving DecidableEq, Repr

/-- The block's state (R20), its outputs (R43), and the model's own fields, marked MODEL FIELD. -/
structure State where
  /-- The parameters of R7, fixed for the block; no step changes them (log entry 5). -/
  cfg : Config
  /-- `IRQ_LINE`, bound by `init`, survives reset (R287, R291, R294). -/
  irqLine : Nat
  /-- CR (R21). -/
  cr : Cr
  /-- ISR (R22). -/
  isr : Isr
  /-- IMR (R23). -/
  imr : Imr
  /-- DCR (R24). -/
  dcr : Dcr
  /-- TCR (R25). -/
  tcr : Tcr
  /-- TSR (R26). -/
  tsr : Tsr
  /-- RCR (R27). -/
  rcr : Rcr
  /-- RSR (R28). -/
  rsr : Rsr
  /-- `page_start`, PSTART (R29). -/
  pageStart : Byte
  /-- `page_stop`, PSTOP (R29). -/
  pageStop : Byte
  /-- `bound_ptr`, BNRY (R29). -/
  boundPtr : Byte
  /-- `curr_page`, CURR (R29). -/
  currPage : Byte
  /-- `remote_start`, RSAR (R30). -/
  remoteStart : Word
  /-- `remote_dma`, CRDA (R30). -/
  remoteDma : Word
  /-- `remote_bytes`, RBCR (R30). -/
  remoteBytes : Word
  /-- `tx_page_start`, TPSR (R31). -/
  txPageStart : Byte
  /-- `tx_bytes`, TBCR (R31). -/
  txBytes : Word
  /-- `local_dma`, CLDA (R32). -/
  localDma : Word
  /-- `num_coll`, NCR (R33). -/
  numColl : Byte
  /-- `fifo` (R33). -/
  fifo : Byte
  /-- `tallycnt_0`, CNTR0 (R34). -/
  tallycnt0 : Byte
  /-- `tallycnt_1`, CNTR1 (R34). -/
  tallycnt1 : Byte
  /-- `tallycnt_2`, CNTR2 (R34). -/
  tallycnt2 : Byte
  /-- `physaddr`, PAR0..PAR5 (R35). -/
  physaddr : Mac
  /-- `mchash`, MAR0..MAR7 (R36). -/
  mchash : Vector Byte 8
  /-- `rempkt_ptr`, RNPP (R37). -/
  rempktPtr : Byte
  /-- `localpkt_ptr`, LNPP (R37). -/
  localpktPtr : Byte
  /-- `address_cnt`, ACU and ACL (R37). -/
  addressCnt : Word
  /-- The page-3 registers (R38). -/
  page3 : PageThree
  /-- `macaddr`, the PROM window (R39). -/
  macaddr : Vector Byte 32
  /-- `mem`, the buffer memory (R40). -/
  mem : Memory
  /-- `irq_level` (R41). -/
  irqLevel : Bool
  /-- `tx_pending` (R42). -/
  txPending : Bool
  /-- The log of `assertIrq` calls, oldest first (R43). -/
  asserts : List Nat
  /-- The log of frames passed to `transportSend`, oldest first (R43). -/
  sent : List (List Byte)
  /-- MODEL FIELD: what the agents do next, first at the head (log entry 1). -/
  inputs : List Event
  /-- MODEL FIELD: the byte the latest port read returned (`return v`, R11); none after a step that returned no byte (log entry 4). -/
  readData : Option Byte
  /-- MODEL FIELD: how many free values `Draw()` has given (log entry 10). -/
  draws : Nat
  deriving DecidableEq, Repr

/-- Why the model stops. -/
inductive Fault where
  /-- `TxOverlap` (R258): raised by WR_CR alone, when it starts an external transmission while `tx_pending` = 1. The spec places the case outside the defined behaviour. Safe: the model stops where the block may go on (log entry 16). -/
  | txOverlap
  deriving DecidableEq, Repr

/-- Why the model gives an event no meaning. -/
inductive Refusal where
  /-- Raised by `exec` for an access with no meaning yet; no arm answers it. Safe. -/
  | notModelled (mnemonic : String)
  /-- Raised by a step whose bus cycle the decoder reads no access from; by R108 this never happens. Safe. -/
  | undecodable
  /-- Raised by the event `txdone` while `tx_pending` = 0, when the completion agent has no step (R257). Safe: no agent can perform such an event (log entry 12). -/
  | noCompletionPending
  deriving DecidableEq, Repr

/-- Write the field `irqLine` alone. -/
def State.setIrqLine (s : State) (v : Nat) : State := { s with irqLine := v }

/-- Write the field `cr` alone. -/
def State.setCr (s : State) (v : Cr) : State := { s with cr := v }

/-- Write the field `isr` alone. -/
def State.setIsr (s : State) (v : Isr) : State := { s with isr := v }

/-- Write the field `imr` alone. -/
def State.setImr (s : State) (v : Imr) : State := { s with imr := v }

/-- Write the field `dcr` alone. -/
def State.setDcr (s : State) (v : Dcr) : State := { s with dcr := v }

/-- Write the field `tcr` alone. -/
def State.setTcr (s : State) (v : Tcr) : State := { s with tcr := v }

/-- Write the field `tsr` alone. -/
def State.setTsr (s : State) (v : Tsr) : State := { s with tsr := v }

/-- Write the field `rcr` alone. -/
def State.setRcr (s : State) (v : Rcr) : State := { s with rcr := v }

/-- Write the field `rsr` alone. -/
def State.setRsr (s : State) (v : Rsr) : State := { s with rsr := v }

/-- Write the field `pageStart` alone. -/
def State.setPageStart (s : State) (v : Byte) : State := { s with pageStart := v }

/-- Write the field `pageStop` alone. -/
def State.setPageStop (s : State) (v : Byte) : State := { s with pageStop := v }

/-- Write the field `boundPtr` alone. -/
def State.setBoundPtr (s : State) (v : Byte) : State := { s with boundPtr := v }

/-- Write the field `currPage` alone. -/
def State.setCurrPage (s : State) (v : Byte) : State := { s with currPage := v }

/-- Write the field `remoteStart` alone. -/
def State.setRemoteStart (s : State) (v : Word) : State := { s with remoteStart := v }

/-- Write the field `remoteDma` alone. -/
def State.setRemoteDma (s : State) (v : Word) : State := { s with remoteDma := v }

/-- Write the field `remoteBytes` alone. -/
def State.setRemoteBytes (s : State) (v : Word) : State := { s with remoteBytes := v }

/-- Write the field `txPageStart` alone. -/
def State.setTxPageStart (s : State) (v : Byte) : State := { s with txPageStart := v }

/-- Write the field `txBytes` alone. -/
def State.setTxBytes (s : State) (v : Word) : State := { s with txBytes := v }

/-- Write the field `localDma` alone. -/
def State.setLocalDma (s : State) (v : Word) : State := { s with localDma := v }

/-- Write the field `mchash` alone. -/
def State.setMchash (s : State) (v : Vector Byte 8) : State := { s with mchash := v }

/-- Write the field `rempktPtr` alone. -/
def State.setRempktPtr (s : State) (v : Byte) : State := { s with rempktPtr := v }

/-- Write the field `localpktPtr` alone. -/
def State.setLocalpktPtr (s : State) (v : Byte) : State := { s with localpktPtr := v }

/-- Write the field `addressCnt` alone. -/
def State.setAddressCnt (s : State) (v : Word) : State := { s with addressCnt := v }

/-- Write the field `mem` alone. -/
def State.setMem (s : State) (v : Memory) : State := { s with mem := v }

/-- Write the field `irqLevel` alone. -/
def State.setIrqLevel (s : State) (v : Bool) : State := { s with irqLevel := v }

/-- Write the field `txPending` alone. -/
def State.setTxPending (s : State) (v : Bool) : State := { s with txPending := v }

/-- Write the field `asserts` alone. -/
def State.setAsserts (s : State) (v : List Nat) : State := { s with asserts := v }

/-- Write the field `sent` alone. -/
def State.setSent (s : State) (v : List (List Byte)) : State := { s with sent := v }

/-- Write the field `inputs` alone. -/
def State.setInputs (s : State) (v : List Event) : State := { s with inputs := v }

/-- Write the field `readData` alone. -/
def State.setReadData (s : State) (v : Option Byte) : State := { s with readData := v }

/-- Write the field `draws` alone. -/
def State.setDraws (s : State) (v : Nat) : State := { s with draws := v }

/-- The block right after reset (R47, R290): the state the spec calls S0 (95_test_vectors.md section 0), which `init 52:54:00:12:34:56, 9` leaves (R291).
The spec leaves `MAC` and `IRQ_LINE` to construction and the model takes S0's (log entry 6); the parameters are the spec's defaults (log entry 8), `ioBase` is the family's (log entry 7), and the reserved bytes have no value at all (log entry 9). -/
def State.reset : State where
  cfg := { ioBase := 0x300, memStart := 0x4000, txDeferred := false, sendpktMode := .none, reserved := Config.reservedAtConstruction }
  irqLine := 9
  cr := { rdmaCmd := 4, stop := true }
  isr := { reset := true }
  imr := {}
  dcr := { longaddr := true }
  tcr := {}
  tsr := {}
  rcr := {}
  rsr := {}
  pageStart := 0
  pageStop := 0
  boundPtr := 0
  currPage := 0
  remoteStart := 0
  remoteDma := 0
  remoteBytes := 0
  txPageStart := 0
  txBytes := 0
  localDma := 0
  numColl := 0
  fifo := 0
  tallycnt0 := 0
  tallycnt1 := 0
  tallycnt2 := 0
  physaddr := #v[0x52, 0x54, 0x00, 0x12, 0x34, 0x56]
  mchash := #v[0, 0, 0, 0, 0, 0, 0, 0]
  rempktPtr := 0
  localpktPtr := 0
  addressCnt := 0
  page3 := {}
  macaddr := #v[0x52, 0x52, 0x54, 0x54, 0x00, 0x00, 0x12, 0x12, 0x34, 0x34, 0x56, 0x56, 0x57, 0x57, 0x57, 0x57, 0x57, 0x57, 0x57, 0x57, 0x57, 0x57, 0x57, 0x57, 0x57, 0x57, 0x57, 0x57, 0x57, 0x57, 0x57, 0x57]
  mem := []
  irqLevel := false
  txPending := false
  asserts := []
  sent := []
  inputs := []
  readData := none
  draws := 0

end Sys2Proof.Machine
end

