-- ==== Sys2Proof/Machine/Operands.lean ====
section
/-! DEFINITION. The operand forms of the block: how the fields of a status or control register lie in its byte (R21 to R28), how the halves of a 16-bit register are read and replaced (R103), and how page numbers name buffer addresses (R8). -/

namespace Sys2Proof.Machine

/-! ### Register bytes: a read assembles the fields, a write takes them apart, a reserved bit reads 0 and is dropped (R104, R194) -/

/-- The byte whose bits 0, 1, .., 7 are the arguments in that order (R9). -/
def byteOfBits (b0 b1 b2 b3 b4 b5 b6 b7 : Bool) : Byte :=
  BitVec.ofBool b7 ++ BitVec.ofBool b6 ++ BitVec.ofBool b5 ++ BitVec.ofBool b4 ++
    BitVec.ofBool b3 ++ BitVec.ofBool b2 ++ BitVec.ofBool b1 ++ BitVec.ofBool b0

/-- CR as a read returns it (R21, R111). -/
def Cr.toByte (r : Cr) : Byte :=
  r.pgsel ++ r.rdmaCmd ++ BitVec.ofBool r.txPacket ++ BitVec.ofBool r.start ++ BitVec.ofBool r.stop

/-- ISR as a read returns it (R22). -/
def Isr.toByte (r : Isr) : Byte :=
  byteOfBits r.pktRx r.pktTx r.rxErr r.txErr r.overwrite r.cntOflow r.rdmaDone r.reset

/-- The ISR fields of a byte (R22). -/
def Isr.ofByte (v : Byte) : Isr where
  pktRx := v.getLsbD 0
  pktTx := v.getLsbD 1
  rxErr := v.getLsbD 2
  txErr := v.getLsbD 3
  overwrite := v.getLsbD 4
  cntOflow := v.getLsbD 5
  rdmaDone := v.getLsbD 6
  reset := v.getLsbD 7

/-- IMR as a read returns it (R23). -/
def Imr.toByte (r : Imr) : Byte :=
  byteOfBits r.rxInte r.txInte r.rxerrInte r.txerrInte r.overwInte r.coflInte r.rdmaInte false

/-- The IMR fields of a written byte (R23, R142). -/
def Imr.ofByte (v : Byte) : Imr where
  rxInte := v.getLsbD 0
  txInte := v.getLsbD 1
  rxerrInte := v.getLsbD 2
  txerrInte := v.getLsbD 3
  overwInte := v.getLsbD 4
  coflInte := v.getLsbD 5
  rdmaInte := v.getLsbD 6

/-- DCR as a read returns it (R24). -/
def Dcr.toByte (r : Dcr) : Byte :=
  byteOfBits r.wdsize r.endian r.longaddr r.loop r.autoRx (r.fifoSize.getLsbD 0) (r.fifoSize.getLsbD 1) false

/-- The DCR fields of a written byte (R24, R141). -/
def Dcr.ofByte (v : Byte) : Dcr where
  wdsize := v.getLsbD 0
  endian := v.getLsbD 1
  longaddr := v.getLsbD 2
  loop := v.getLsbD 3
  autoRx := v.getLsbD 4
  fifoSize := v.extractLsb' 5 2

/-- TCR as a read returns it (R25). -/
def Tcr.toByte (r : Tcr) : Byte :=
  byteOfBits r.crcDisable (r.loopCntl.getLsbD 0) (r.loopCntl.getLsbD 1) r.extStoptx r.collPrio false false false

/-- The TCR fields of a written byte (R25, R140). -/
def Tcr.ofByte (v : Byte) : Tcr where
  crcDisable := v.getLsbD 0
  loopCntl := v.extractLsb' 1 2
  extStoptx := v.getLsbD 3
  collPrio := v.getLsbD 4

/-- TSR as a read returns it (R26). -/
def Tsr.toByte (r : Tsr) : Byte :=
  byteOfBits r.txOk false r.collided r.aborted r.noCarrier r.fifoUr r.cdHbeat r.owColl

/-- RCR as a read returns it (R27). -/
def Rcr.toByte (r : Rcr) : Byte :=
  byteOfBits r.errorsOk r.runtsOk r.broadcast r.multicast r.promisc r.monitor false false

/-- The RCR fields of a written byte (R27, R139). -/
def Rcr.ofByte (v : Byte) : Rcr where
  errorsOk := v.getLsbD 0
  runtsOk := v.getLsbD 1
  broadcast := v.getLsbD 2
  multicast := v.getLsbD 3
  promisc := v.getLsbD 4
  monitor := v.getLsbD 5

/-- RSR as a read returns it (R28). -/
def Rsr.toByte (r : Rsr) : Byte :=
  byteOfBits r.rxOk r.badCrc r.badFalign r.fifoOr r.rxMissed r.rxMbit r.rxDisabled r.deferred

/-! ### The halves of a 16-bit register (R103) -/

/-- Bits 7:0. -/
def lowByte (w : Word) : Byte := w.extractLsb' 0 8

/-- Bits 15:8. -/
def highByte (w : Word) : Byte := w.extractLsb' 8 8

/-- Replace the low half, keep the high half: `(reg & 0xFF00) | v` (R103). -/
def setLowByte (w : Word) (v : Byte) : Word := (w &&& 0xFF00#16) ||| v.setWidth 16

/-- Replace the high half, keep the low half: `(reg & 0x00FF) | (v << 8)` (R103). -/
def setHighByte (w : Word) (v : Byte) : Word := (w &&& 0x00FF#16) ||| (v.setWidth 16 <<< 8)

/-! ### Page numbers (R8) -/

/-- The first buffer address of page `p`, as a 16-bit value: `p * 256` (R8). -/
def pageWord (p : Byte) : Word := BitVec.ofNat 16 (p.toNat * 256)

/-- The first buffer address of page `p`, as an integer (R8, R9). -/
def pageAddr (p : Byte) : Int := (p.toNat : Int) * 256

end Sys2Proof.Machine
end

