-- ==== Sys2Proof/Machine/Ops.lean ====
section
/-! DEFINITION. The primitives of R11: buffer-memory accesses, free values, the interrupt and transport outputs, reset and init.
The block takes no exception (R270); what stands in an exception's place is `assertIrq` (R273), written once here. -/

namespace Sys2Proof.Machine

/-! ### The buffer memory in canonical form (log entry 17) -/

/-- The byte `mem[i]`; an index that is not listed reads 0x00 (R40, R290). -/
def Memory.read (m : Memory) (i : Nat) : Byte :=
  match m with
  | [] => 0#8
  | (j, b) :: rest => if i = j then b else Memory.read rest i

/-- Put a cell at the head of a memory, unless its byte is the one an unlisted index reads as. -/
def Memory.consCell (i : Nat) (v : Byte) (m : Memory) : Memory := if v = 0#8 then m else (i, v) :: m

/-- `mem[i] <- v`, keeping the indexes rising and no byte 0 listed. -/
def Memory.write (m : Memory) (i : Nat) (v : Byte) : Memory :=
  match m with
  | [] => Memory.consCell i v []
  | (j, b) :: rest =>
    if i < j then Memory.consCell i v ((j, b) :: rest)
    else if i = j then Memory.consCell i v rest
    else (j, b) :: Memory.write rest i v

/-- The canonical form: indexes strictly rising and below MEMSIZE (R40), no listed byte 0. -/
abbrev Memory.wf (m : Memory) : Prop :=
  (m.map Prod.fst).Pairwise (· < ·) ∧ ∀ c ∈ m, c.1 < memSize ∧ c.2 ≠ 0#8

/-! ### Buffer-space accesses -/

/-- Is the integer `a` a backed buffer address, `MEMSTART <= a < MEMEND` (R71)? -/
def backed (c : Config) (a : Int) : Bool := decide ((c.memStart : Int) ≤ a ∧ a < (c.memEnd : Int))

/-- `ChipRead8(a)` (R72): the PROM window first, then the backed memory, 0xFF everywhere else; no address is reduced modulo 65536. -/
def chipRead8 (s : State) (a : Int) : Byte :=
  if h : 0 ≤ a ∧ a < 32 then s.macaddr[a.toNat]'(by omega)
  else if backed s.cfg a then s.mem.read (a - s.cfg.memStart).toNat
  else 0xFF#8

/-- `ChipRead16(a)` (R73): the lower address is the low byte; each byte is resolved on its own. -/
def chipRead16 (s : State) (a : Int) : Word :=
  (chipRead8 s a).setWidth 16 ||| ((chipRead8 s (a + 1)).setWidth 16 <<< 8)

/-- What a buffer write makes of the memory (R75): stored where the address is in 0..0xFFFF and backed, ignored elsewhere. -/
def memoryWrite8 (c : Config) (m : Memory) (a : Int) (v : Byte) : Memory :=
  if decide (0 ≤ a ∧ a ≤ 0xFFFF) && backed c a then m.write (a - c.memStart).toNat v else m

/-- `ChipWrite8(a, v)` (R75). -/
def chipWrite8 (s : State) (a : Int) (v : Byte) : State := s.setMem (memoryWrite8 s.cfg s.mem a v)

/-! ### Free values -/

/-- The next free byte, the value `Draw()` gives (R11; log entry 10). -/
def drawnByte (s : State) : Byte := Config.freeByte s.draws

/-- The state after `n` calls of `Draw()`. -/
def afterDraws (n : Nat) (s : State) : State := s.setDraws (s.draws + n)

/-! ### Outputs -/

/-- `AssertIrq()` (R273): one call of `assertIrq(IRQ_LINE)`, appended to the log, and `irq_level <- 1`. -/
def assertIrq (s : State) : State := (s.setAsserts (s.asserts ++ [s.irqLine])).setIrqLevel true

/-- `AssertIrq()` where a condition holds. -/
def assertIrqIf (c : Bool) (s : State) : State := if c then assertIrq s else s

/-- `TransportSend(bytes)` (R11, R254): one entry of the send log. -/
def transportSend (bytes : List Byte) (s : State) : State := s.setSent (s.sent ++ [bytes])

/-! ### How an access ends -/

/-- The access is a read and returns `v` (R11 `return v`). -/
def returning (v : Byte) (s : State) : Host.Outcome State Fault Refusal := .next (s.setReadData (some v))

/-- `ReservedRead(page, off)` (R7, D28). -/
def reservedRead (c : Config) (page : BitVec 2) (off : BitVec 4) : Byte :=
  c.reserved[page.toNat * 16 + off.toNat]'(by have := page.isLt; have := off.isLt; omega)

/-- A read of a reserved offset (R102): one fixed byte, no side effect. -/
def reservedReadOf (page : BitVec 2) (off : BitVec 4) (s : State) : Host.Outcome State Fault Refusal :=
  returning (reservedRead s.cfg page off) s

/-- An access that changes nothing: a write of a reserved offset, of a read-only register, or of the reset port (R102). -/
def ignored (s : State) : Host.Outcome State Fault Refusal := .next s

/-- Go on from a next state; a stop stays the stop it is. -/
def andThen (o : Host.Outcome State Fault Refusal) (f : State → State) : Host.Outcome State Fault Refusal :=
  match o with
  | .next s => .next (f s)
  | .fault r => .fault r
  | .refused r => .refused r

/-! ### Reset and init -/

/-- The PROM bytes of a station address (R39): each byte twice, then twenty bytes `SIGNATURE_BYTE` = 0x57. -/
def promOf (p : Mac) : Vector Byte 32 :=
  #v[p[0], p[0], p[1], p[1], p[2], p[2], p[3], p[3], p[4], p[4], p[5], p[5],
    0x57, 0x57, 0x57, 0x57, 0x57, 0x57, 0x57, 0x57, 0x57, 0x57,
    0x57, 0x57, 0x57, 0x57, 0x57, 0x57, 0x57, 0x57, 0x57, 0x57]

/-- Part 1 of `Reset()` (R290): every register group and engine state is zero. `physaddr`, `mchash`, `macaddr`, the outputs and the parameters are not touched (R294). -/
def zeroRegisters (s : State) : State :=
  { s with
    cr := {}, isr := {}, imr := {}, dcr := {}, tcr := {}, tsr := {}, rcr := {}, rsr := {}
    pageStart := 0, pageStop := 0, boundPtr := 0, currPage := 0
    remoteStart := 0, remoteDma := 0, remoteBytes := 0
    txPageStart := 0, txBytes := 0
    localDma := 0, numColl := 0, fifo := 0, tallycnt0 := 0, tallycnt1 := 0, tallycnt2 := 0
    rempktPtr := 0, localpktPtr := 0, addressCnt := 0
    page3 := {}
    mem := []
    irqLevel := false, txPending := false }

/-- Part 2 of `Reset()` (R290): the PROM window is recomputed from `physaddr` (R39). -/
def loadProm (s : State) : State := { s with macaddr := promOf s.physaddr }

/-- Part 3 of `Reset()` (R290): `CR.stop <- 1; CR.rdma_cmd <- 4; ISR.reset <- 1; DCR.longaddr <- 1`. -/
def powerUpDefaults (s : State) : State :=
  { s with
    cr := { s.cr with stop := true, rdmaCmd := 4 }
    isr := { s.isr with reset := true }
    dcr := { s.dcr with longaddr := true } }

/-- `Reset()`, the one reset procedure (R290, R292). -/
def resetBlock (s : State) : State := powerUpDefaults (loadProm (zeroRegisters s))

/-- Construction (R48, R291): every state variable is zero, `physaddr`, `mchash` and `macaddr` included. The parameters, the output logs (which lie outside the device, R43), the queue of events and the free values stay (log entry 13). -/
def construct (s : State) : State :=
  { zeroRegisters s with
    irqLine := 0
    physaddr := #v[0, 0, 0, 0, 0, 0]
    mchash := #v[0, 0, 0, 0, 0, 0, 0, 0]
    macaddr := Vector.replicate 32 0 }

/-- Construction and `init(MAC, IRQ)` (R291): bind the line, copy the address, one hardware reset. -/
def initBlock (mac : Mac) (irq : Nat) (s : State) : State :=
  resetBlock { construct s with irqLine := irq, physaddr := mac }

end Sys2Proof.Machine
end

