-- ==== Sys2Proof/Machine/Flags.lean ====
section
/-! DEFINITION. The status flags: who sets them, who clears them, and when the interrupt is asserted or lowered (R45, R271 to R279). -/

namespace Sys2Proof.Machine

/-- The masked status `ISR & IMR & 0x7F` (R272). -/
def maskedStatus (s : State) : Byte := s.isr.toByte &&& s.imr.toByte &&& 0x7F#8

/-- Write-1-to-clear of ISR (R134): a 1 in `v` clears its bit, a 0 leaves it. -/
def clearIsr (v : Byte) (s : State) : State := s.setIsr (Isr.ofByte (s.isr.toByte &&& ~~~v))

/-- Lowering (R275): if the masked status is 0 then `irq_level <- 0`. -/
def lowerIrq (s : State) : State := if maskedStatus s = 0#8 then s.setIrqLevel false else s

/-- `ISR.reset <- 1`, the side effect of a CR write with bit 0 set (R112). -/
def raiseReset (s : State) : State := s.setIsr { s.isr with reset := true }

/-- `ISR.rdma_done <- 1`, and an assertion if `IMR.rdma_inte` = 1, at every event (R205, R207, R274 b and c). -/
def raiseRdmaDone (s : State) : State :=
  let s := s.setIsr { s.isr with rdmaDone := true }
  assertIrqIf s.imr.rdmaInte s

/-- `ISR.pkt_rx <- 1`, and an assertion if `IMR.rx_inte` = 1, at every accepted frame (R239, R274 a). -/
def raisePktRx (s : State) : State :=
  let s := s.setIsr { s.isr with pktRx := true }
  assertIrqIf s.imr.rxInte s

/-- An assertion if `IMR.tx_inte` = 1 and `ISR.pkt_tx` was 0, then `ISR.pkt_tx <- 1` (R252, R256, R274 d). -/
def raisePktTx (s : State) : State :=
  let s := assertIrqIf (s.imr.txInte && !s.isr.pktTx) s
  s.setIsr { s.isr with pktTx := true }

/-- `TSR.tx_ok <- 1` (R256). -/
def raiseTxOk (s : State) : State := s.setTsr { s.tsr with txOk := true }

/-- `RSR.rx_ok <- 1`, and `RSR.rx_mbit <- 1` for a multicast destination; neither is ever cleared here (R238). -/
def raiseRxOk (isMulticast : Bool) (s : State) : State :=
  s.setRsr { s.rsr with rxOk := true, rxMbit := s.rsr.rxMbit || isMulticast }

end Sys2Proof.Machine
end

