-- ==== Sys2Proof/Machine/RemoteDma.lean ====
section
/-! DEFINITION. The remote-DMA engine (41_remote_dma.md): access length, address advance, count and completion, the data port, the IRQ probe and the send-packet command. -/

namespace Sys2Proof.Machine

/-- The access length of a data-port access (R201): 2 if `DCR.wdsize` = 1 and `remote_dma < 32`, else 1. -/
def accessLength (s : State) : Nat := if s.dcr.wdsize && decide (s.remoteDma.toNat < 32) then 2 else 1

/-- The address `remote_dma` advances to by `n` (R204): modulo 65536, and moved from `page_stop * 256` to `page_start * 256` on exact equality. -/
def advancedAddress (n : Nat) (s : State) : Word :=
  let a := s.remoteDma + BitVec.ofNat 16 n
  if a = pageWord s.pageStop then pageWord s.pageStart else a

/-- The count-down `remote_bytes <- max(remote_bytes - n, 0)` (R205). -/
def countedDown (n : Nat) (s : State) : Word := BitVec.ofNat 16 (s.remoteBytes.toNat - n)

/-- `DmaAdvance(n)` (R204, then R205): address, count, and the completion when the count is 0. -/
def dmaAdvance (n : Nat) (s : State) : State :=
  let s := s.setRemoteDma (advancedAddress n s)
  let s := s.setRemoteBytes (countedDown n s)
  if s.remoteBytes = 0#16 then raiseRdmaDone s else s

/-- RD_DATA (R202): the byte at `remote_dma`, then the advance; a count of 0 does not stop it, and CR is not consulted (R206). -/
def dataPortRead (s : State) : Host.Outcome State Fault Refusal :=
  returning (chipRead8 s s.remoteDma.toNat) (dmaAdvance (accessLength s) s)

/-- WR_DATA (R203): dropped while `remote_bytes` = 0; else store, then advance. CR is not consulted (R206). -/
def dataPortWrite (v : Byte) (s : State) : Host.Outcome State Fault Refusal :=
  if s.remoteBytes = 0#16 then ignored s
  else .next (dmaAdvance (accessLength s) (chipWrite8 s s.remoteDma.toNat v))

/-- Load `remote_start`, and `remote_dma` from the whole of it (R135, R136). -/
def loadRemoteStart (w : Word) (s : State) : State := (s.setRemoteStart w).setRemoteDma w

/-- The condition of the IRQ probe (R207): `CR.rdma_cmd == 1 and CR.start == 1 and remote_bytes == 0`; `CR.stop` is not tested. -/
def probeDue (s : State) : Bool := s.cr.rdmaCmd == 1#3 && s.cr.start && s.remoteBytes == 0#16

/-- The IRQ probe, where it is due (R112, R207). No byte moves. -/
def irqProbe (s : State) : State := if probeDue s then raiseRdmaDone s else s

/-- SendPacketCommand, where `CR.rdma_cmd` = 3 (R112, R208): nothing unless `SENDPKT_MODE` is DS8390. -/
def sendPacketCommand (s : State) : State :=
  if s.cr.rdmaCmd = 3#3 then
    match s.cfg.sendpktMode with
    | .none => s
    | .ds8390 => (loadRemoteStart (pageWord s.boundPtr) s).setRemoteBytes (chipRead16 s (pageAddr s.boundPtr + 2))
  else s

end Sys2Proof.Machine
end

