-- ==== Sys2Proof/Machine/Receive.lean ====
section
/-! DEFINITION. The receive engine (42_receive.md): refusal, space, runt and address checks, the multicast hash, and the writing of an accepted frame into the ring. Addresses and page counts are unbounded integers, reduced only where they are stored (R9). -/

namespace Sys2Proof.Machine

/-! ### Size and space -/

/-- Pages a frame of `len` bytes requires (R222): `ceil((len + 8) / 256)`. -/
def pagesRequired (len : Nat) : Nat := (len + 8 + 255) / 256

/-- Free pages of the ring on the current pointers (R223); zero or negative for pointers outside the ring. -/
def freePages (s : State) : Int :=
  let start : Int := s.pageStart.toNat
  let stop : Int := s.pageStop.toNat
  let bound : Int := s.boundPtr.toNat
  let curr : Int := s.currPage.toNat
  if curr < bound then bound - curr else (stop - start) - (curr - bound)

/-- The padded view of a frame (R226): zeros up to 60 bytes. -/
def padded (frame : List Byte) : List Byte := frame ++ List.replicate (60 - frame.length) 0#8

/-- The destination address: bytes 0..5 of the padded frame (R220). -/
def destination (p : List Byte) : Mac := #v[p.getD 0 0#8, p.getD 1 0#8, p.getD 2 0#8, p.getD 3 0#8, p.getD 4 0#8, p.getD 5 0#8]

/-! ### The address filter -/

/-- The multicast bit `dst[0] & 1` (R12, R229). -/
def isMulticast (dst : Mac) : Bool := dst[0].getLsbD 0

/-- FF:FF:FF:FF:FF:FF (R228). -/
def broadcastAddress : Mac := #v[0xFF#8, 0xFF#8, 0xFF#8, 0xFF#8, 0xFF#8, 0xFF#8]

/-- One bit of the multicast CRC loop (R230). -/
def mcastCrcBit (crc : BitVec 32) (bit : Bool) : BitVec 32 :=
  let carry := crc.getLsbD 31 ^^ bit
  let shifted := crc <<< 1
  if carry then (shifted ^^^ 0x04C11DB6#32) ||| 1#32 else shifted

/-- One byte of the multicast CRC loop, least significant bit first (R230). -/
def mcastCrcByte (crc : BitVec 32) (b : Byte) : BitVec 32 :=
  (List.range 8).foldl (fun c i => mcastCrcBit c (b.getLsbD i)) crc

/-- The final `crc` of the loop over the six destination bytes (R230). -/
def mcastCrc (dst : Mac) : BitVec 32 := dst.toList.foldl mcastCrcByte 0xFFFFFFFF#32

/-- `McastIndex(dst)`: bits 31:26 of the final `crc` (R230). -/
def mcastIndex (dst : Mac) : BitVec 6 := (mcastCrc dst).extractLsb' 26 6

/-- Bit `i & 7` of `mchash[i >> 3]` (R231). -/
def hashBit (table : Vector Byte 8) (i : BitVec 6) : Bool :=
  (table[(i.extractLsb' 3 3).toNat]'(by have := (i.extractLsb' 3 3).isLt; omega)).getLsbD (i.extractLsb' 0 3).toNat

/-- `Accept(dst)` (R227 to R232): promiscuous, then broadcast, then multicast, then unicast. -/
def acceptsAddress (s : State) (dst : Mac) : Bool :=
  if s.rcr.promisc then true
  else if dst = broadcastAddress then s.rcr.broadcast
  else if isMulticast dst then s.rcr.multicast && hashBit s.mchash (mcastIndex dst)
  else decide (dst = s.physaddr)

/-- Every check before the copy, in the order of R220 (R221, R224, R225, R227): is the frame accepted? No other check refuses a frame, also where `page_stop <= page_start` (log entry 27). -/
def acceptsFrame (s : State) (frame : List Byte) : Bool :=
  if s.cr.stop || s.pageStart == 0#8 then false
  else if freePages s ≤ pagesRequired frame.length then false
  else if decide (frame.length < 40) && !s.rcr.runtsOk then false
  else acceptsAddress s (destination (padded frame))

/-! ### Writing the frame into the ring -/

/-- The next page (R233): one subtraction of the ring size where `page_stop` is reached. -/
def nextPage (s : State) (pages : Nat) : Int :=
  let next : Int := s.currPage.toNat + pages
  if (s.pageStop.toNat : Int) ≤ next then next - ((s.pageStop.toNat : Int) - s.pageStart.toNat) else next

/-- The header's status byte (R234): bit 0 set, bit 5 the multicast bit. -/
def headerStatus (dst : Mac) : Byte := if isMulticast dst then 0x21#8 else 0x01#8

/-- The four header bytes (R234): status, next page, length plus 4 low byte first. -/
def header (dst : Mac) (next : Int) (plen : Nat) : List Byte :=
  let len := BitVec.ofNat 16 (plen + 4)
  [headerStatus dst, BitVec.ofInt 8 next, lowByte len, highByte len]

/-- The buffer address of ring position `i` (R235): `i` bytes past the start of `curr_page`, split at `page_stop`. -/
def ringAddr (s : State) (i : Nat) : Int :=
  let a := pageAddr s.currPage + i
  if pageAddr s.pageStop ≤ a then a - (pageAddr s.pageStop - pageAddr s.pageStart) else a

/-- Write bytes at ring positions `i`, `i + 1`, .. (R235); the ring pointers are those of `s`, which the copy does not change. -/
def ringWrite (s : State) (m : Memory) (i : Nat) (bytes : List Byte) : Memory :=
  match bytes with
  | [] => m
  | b :: rest => ringWrite s (memoryWrite8 s.cfg m (ringAddr s i) b) (i + 1) rest

/-- `RingCopy(D)` (R235). -/
def ringCopy (bytes : List Byte) (s : State) : State := s.setMem (ringWrite s s.mem 0 bytes)

/-- The four free bytes of the CRC slot, in the order they are drawn (R236; log entry 11). -/
def crcSlotBytes (s : State) : List Byte :=
  [Config.freeByte s.draws, Config.freeByte (s.draws + 1), Config.freeByte (s.draws + 2), Config.freeByte (s.draws + 3)]

/-- `RingFillCrcSlot(plen)` (R236): the four ring bytes after the padded frame take free values, where they are backed. -/
def ringFillCrcSlot (plen : Nat) (s : State) : State :=
  afterDraws 4 (s.setMem (ringWrite s s.mem (4 + plen) (crcSlotBytes s)))

/-- An accepted frame (R220 from `nextpage` on): ring, `curr_page`, status and interrupt. -/
def storeFrame (frame : List Byte) (s : State) : State :=
  let p := padded frame
  let dst := destination p
  let next := nextPage s (pagesRequired frame.length)
  let s := ringCopy (header dst next p.length ++ p) s
  let s := ringFillCrcSlot p.length s
  let s := s.setCurrPage (BitVec.ofInt 8 next)
  raisePktRx (raiseRxOk (isMulticast dst) s)

/-- `Receive(F)` (R220): an accepted frame is stored, a dropped one changes nothing (R240). -/
def receive (frame : List Byte) (s : State) : State := if acceptsFrame s frame then storeFrame frame s else s

end Sys2Proof.Machine
end

