-- ==== Sys2Proof/Machine/Transmit.lean ====
section
/-! DEFINITION. The transmit engine and loopback (43_transmit.md). -/

namespace Sys2Proof.Machine

/-- `TxRegion()` (R255): exactly `tx_bytes` bytes from `tx_page_start * 256` on, read through `ChipRead8`, not padded, no CRC. -/
def txRegion (s : State) : List Byte :=
  (List.range s.txBytes.toNat).map fun (i : Nat) => chipRead8 s (pageAddr s.txPageStart + (i : Int))

/-- `CR.tx_packet` and `tx_pending`, which are written together (R254, R256). -/
def setTransmitting (b : Bool) (s : State) : State := (s.setCr { s.cr with txPacket := b }).setTxPending b

/-- `TxComplete()` (R256). -/
def txComplete (s : State) : State := setTransmitting false (raisePktTx (raiseTxOk s))

/-- An external transmission with none pending (R254): hand the frame over, and complete at once unless `TX_DEFERRED`. -/
def externalTransmit (s : State) : State :=
  let s := transportSend (txRegion s) (setTransmitting true s)
  if s.cfg.txDeferred then s else txComplete s

/-- Loopback mode 1 (R252): the region goes through the receive engine, then the TX part, accepted or not. -/
def loopbackTransmit (s : State) : State := raisePktTx (receive (txRegion s) s)

/-- `TransmitStart()` (R250, R251): mode 0 external (R254, R258), mode 1 loopback (R252), modes 2 and 3 nothing (R253). `stop`, `start` and a zero count do not matter (R259). -/
def transmitStart (s : State) : Host.Outcome State Fault Refusal :=
  if s.tcr.loopCntl = 0#2 then
    if s.txPending then .fault .txOverlap else .next (externalTransmit s)
  else if s.tcr.loopCntl = 1#2 then .next (loopbackTransmit s)
  else .next s

end Sys2Proof.Machine
end

