-- ==== Sys2Proof/Machine/CommandRegister.lean ====
section
/-! DEFINITION. The command register, offset 0 of every page (R111, R112). -/

namespace Sys2Proof.Machine

/-- RD_CR (R111): returns CR assembled from its fields. -/
def execRdCr (s : State) : Host.Outcome State Fault Refusal :=
  returning s.cr.toByte s

/-- The written CR byte with a zero `rdma_cmd` field coerced to 4 (R112). -/
def coerceCommand (v : Byte) : Byte := if v.extractLsb' 3 3 = 0#3 then v ||| 0x20#8 else v

/-- The fields a CR write stores: `stop`, `rdma_cmd`, `start`, `pgsel` from the coerced byte; `tx_packet` is not written; bit 0 also sets `ISR.reset` (R112). -/
def storeCommand (v : Byte) (s : State) : State :=
  let s := if v.getLsbD 0 then raiseReset s else s
  s.setCr
    { pgsel := v.extractLsb' 6 2
      rdmaCmd := v.extractLsb' 3 3
      txPacket := s.cr.txPacket
      start := v.getLsbD 1
      stop := v.getLsbD 0 }

/-- Transmit start, where bit 2 of the written byte is 1 (R112, R250). -/
def transmitIfAsked (v : Byte) (s : State) : Host.Outcome State Fault Refusal :=
  if v.getLsbD 2 then transmitStart s else .next s

/-- WR_CR (R112): coerce `rdma_cmd`, store the fields, then the send-packet command (R208), the transmit start (R250), the IRQ probe (R207), in this order (D35). -/
def execWrCr (v : Byte) (s : State) : Host.Outcome State Fault Refusal :=
  andThen (transmitIfAsked v (sendPacketCommand (storeCommand (coerceCommand v) s))) irqProbe

end Sys2Proof.Machine
end

