-- ==== Sys2Proof/Machine/DataPort.lean ====
section
/-! DEFINITION. The data port, offsets 0x10..0x1E of every page; the offset selects nothing (R94, R200). -/

namespace Sys2Proof.Machine

/-- RD_DATA_10 (R202): a data-port read at offset 0x10. -/
def execRdData10 (s : State) : Host.Outcome State Fault Refusal :=
  dataPortRead s

/-- RD_DATA_11 (R202): a data-port read at offset 0x11. -/
def execRdData11 (s : State) : Host.Outcome State Fault Refusal :=
  dataPortRead s

/-- RD_DATA_12 (R202): a data-port read at offset 0x12. -/
def execRdData12 (s : State) : Host.Outcome State Fault Refusal :=
  dataPortRead s

/-- RD_DATA_13 (R202): a data-port read at offset 0x13. -/
def execRdData13 (s : State) : Host.Outcome State Fault Refusal :=
  dataPortRead s

/-- RD_DATA_14 (R202): a data-port read at offset 0x14. -/
def execRdData14 (s : State) : Host.Outcome State Fault Refusal :=
  dataPortRead s

/-- RD_DATA_15 (R202): a data-port read at offset 0x15. -/
def execRdData15 (s : State) : Host.Outcome State Fault Refusal :=
  dataPortRead s

/-- RD_DATA_16 (R202): a data-port read at offset 0x16. -/
def execRdData16 (s : State) : Host.Outcome State Fault Refusal :=
  dataPortRead s

/-- RD_DATA_17 (R202): a data-port read at offset 0x17. -/
def execRdData17 (s : State) : Host.Outcome State Fault Refusal :=
  dataPortRead s

/-- RD_DATA_18 (R202): a data-port read at offset 0x18. -/
def execRdData18 (s : State) : Host.Outcome State Fault Refusal :=
  dataPortRead s

/-- RD_DATA_19 (R202): a data-port read at offset 0x19. -/
def execRdData19 (s : State) : Host.Outcome State Fault Refusal :=
  dataPortRead s

/-- RD_DATA_1A (R202): a data-port read at offset 0x1A. -/
def execRdData1a (s : State) : Host.Outcome State Fault Refusal :=
  dataPortRead s

/-- RD_DATA_1B (R202): a data-port read at offset 0x1B. -/
def execRdData1b (s : State) : Host.Outcome State Fault Refusal :=
  dataPortRead s

/-- RD_DATA_1C (R202): a data-port read at offset 0x1C. -/
def execRdData1c (s : State) : Host.Outcome State Fault Refusal :=
  dataPortRead s

/-- RD_DATA_1D (R202): a data-port read at offset 0x1D. -/
def execRdData1d (s : State) : Host.Outcome State Fault Refusal :=
  dataPortRead s

/-- RD_DATA_1E (R202): a data-port read at offset 0x1E. -/
def execRdData1e (s : State) : Host.Outcome State Fault Refusal :=
  dataPortRead s

/-- WR_DATA_10 (R203): a data-port write at offset 0x10. -/
def execWrData10 (v : Byte) (s : State) : Host.Outcome State Fault Refusal :=
  dataPortWrite v s

/-- WR_DATA_11 (R203): a data-port write at offset 0x11. -/
def execWrData11 (v : Byte) (s : State) : Host.Outcome State Fault Refusal :=
  dataPortWrite v s

/-- WR_DATA_12 (R203): a data-port write at offset 0x12. -/
def execWrData12 (v : Byte) (s : State) : Host.Outcome State Fault Refusal :=
  dataPortWrite v s

/-- WR_DATA_13 (R203): a data-port write at offset 0x13. -/
def execWrData13 (v : Byte) (s : State) : Host.Outcome State Fault Refusal :=
  dataPortWrite v s

/-- WR_DATA_14 (R203): a data-port write at offset 0x14. -/
def execWrData14 (v : Byte) (s : State) : Host.Outcome State Fault Refusal :=
  dataPortWrite v s

/-- WR_DATA_15 (R203): a data-port write at offset 0x15. -/
def execWrData15 (v : Byte) (s : State) : Host.Outcome State Fault Refusal :=
  dataPortWrite v s

/-- WR_DATA_16 (R203): a data-port write at offset 0x16. -/
def execWrData16 (v : Byte) (s : State) : Host.Outcome State Fault Refusal :=
  dataPortWrite v s

/-- WR_DATA_17 (R203): a data-port write at offset 0x17. -/
def execWrData17 (v : Byte) (s : State) : Host.Outcome State Fault Refusal :=
  dataPortWrite v s

/-- WR_DATA_18 (R203): a data-port write at offset 0x18. -/
def execWrData18 (v : Byte) (s : State) : Host.Outcome State Fault Refusal :=
  dataPortWrite v s

/-- WR_DATA_19 (R203): a data-port write at offset 0x19. -/
def execWrData19 (v : Byte) (s : State) : Host.Outcome State Fault Refusal :=
  dataPortWrite v s

/-- WR_DATA_1A (R203): a data-port write at offset 0x1A. -/
def execWrData1a (v : Byte) (s : State) : Host.Outcome State Fault Refusal :=
  dataPortWrite v s

/-- WR_DATA_1B (R203): a data-port write at offset 0x1B. -/
def execWrData1b (v : Byte) (s : State) : Host.Outcome State Fault Refusal :=
  dataPortWrite v s

/-- WR_DATA_1C (R203): a data-port write at offset 0x1C. -/
def execWrData1c (v : Byte) (s : State) : Host.Outcome State Fault Refusal :=
  dataPortWrite v s

/-- WR_DATA_1D (R203): a data-port write at offset 0x1D. -/
def execWrData1d (v : Byte) (s : State) : Host.Outcome State Fault Refusal :=
  dataPortWrite v s

/-- WR_DATA_1E (R203): a data-port write at offset 0x1E. -/
def execWrData1e (v : Byte) (s : State) : Host.Outcome State Fault Refusal :=
  dataPortWrite v s

end Sys2Proof.Machine
end

