-- ==== Sys2Proof/Machine/PageOne.lean ====
section
/-! DEFINITION. Page 1 (R98, R143 to R172): the station address, read-only to the guest; CURR; the multicast hash table. -/

namespace Sys2Proof.Machine

/-- RD_P1_PAR0 (R143): returns `physaddr[0]`. -/
def execRdP1Par0 (s : State) : Host.Outcome State Fault Refusal :=
  returning s.physaddr[0] s

/-- RD_P1_PAR1 (R144): returns `physaddr[1]`. -/
def execRdP1Par1 (s : State) : Host.Outcome State Fault Refusal :=
  returning s.physaddr[1] s

/-- RD_P1_PAR2 (R145): returns `physaddr[2]`. -/
def execRdP1Par2 (s : State) : Host.Outcome State Fault Refusal :=
  returning s.physaddr[2] s

/-- RD_P1_PAR3 (R146): returns `physaddr[3]`. -/
def execRdP1Par3 (s : State) : Host.Outcome State Fault Refusal :=
  returning s.physaddr[3] s

/-- RD_P1_PAR4 (R147): returns `physaddr[4]`. -/
def execRdP1Par4 (s : State) : Host.Outcome State Fault Refusal :=
  returning s.physaddr[4] s

/-- RD_P1_PAR5 (R148): returns `physaddr[5]`. -/
def execRdP1Par5 (s : State) : Host.Outcome State Fault Refusal :=
  returning s.physaddr[5] s

/-- RD_P1_CURR (R149): returns `curr_page`. -/
def execRdP1Curr (s : State) : Host.Outcome State Fault Refusal :=
  returning s.currPage s

/-- RD_P1_MAR0 (R150): returns `mchash[0]`. -/
def execRdP1Mar0 (s : State) : Host.Outcome State Fault Refusal :=
  returning s.mchash[0] s

/-- RD_P1_MAR1 (R151): returns `mchash[1]`. -/
def execRdP1Mar1 (s : State) : Host.Outcome State Fault Refusal :=
  returning s.mchash[1] s

/-- RD_P1_MAR2 (R152): returns `mchash[2]`. -/
def execRdP1Mar2 (s : State) : Host.Outcome State Fault Refusal :=
  returning s.mchash[2] s

/-- RD_P1_MAR3 (R153): returns `mchash[3]`. -/
def execRdP1Mar3 (s : State) : Host.Outcome State Fault Refusal :=
  returning s.mchash[3] s

/-- RD_P1_MAR4 (R154): returns `mchash[4]`. -/
def execRdP1Mar4 (s : State) : Host.Outcome State Fault Refusal :=
  returning s.mchash[4] s

/-- RD_P1_MAR5 (R155): returns `mchash[5]`. -/
def execRdP1Mar5 (s : State) : Host.Outcome State Fault Refusal :=
  returning s.mchash[5] s

/-- RD_P1_MAR6 (R156): returns `mchash[6]`. -/
def execRdP1Mar6 (s : State) : Host.Outcome State Fault Refusal :=
  returning s.mchash[6] s

/-- RD_P1_MAR7 (R157): returns `mchash[7]`. -/
def execRdP1Mar7 (s : State) : Host.Outcome State Fault Refusal :=
  returning s.mchash[7] s

/-- WR_P1_PAR0 (R158): nothing, the data byte is discarded (D10). -/
def execWrP1Par0 (_v : Byte) (s : State) : Host.Outcome State Fault Refusal :=
  ignored s

/-- WR_P1_PAR1 (R159): nothing, the data byte is discarded (D10). -/
def execWrP1Par1 (_v : Byte) (s : State) : Host.Outcome State Fault Refusal :=
  ignored s

/-- WR_P1_PAR2 (R160): nothing, the data byte is discarded (D10). -/
def execWrP1Par2 (_v : Byte) (s : State) : Host.Outcome State Fault Refusal :=
  ignored s

/-- WR_P1_PAR3 (R161): nothing, the data byte is discarded (D10). -/
def execWrP1Par3 (_v : Byte) (s : State) : Host.Outcome State Fault Refusal :=
  ignored s

/-- WR_P1_PAR4 (R162): nothing, the data byte is discarded (D10). -/
def execWrP1Par4 (_v : Byte) (s : State) : Host.Outcome State Fault Refusal :=
  ignored s

/-- WR_P1_PAR5 (R163): nothing, the data byte is discarded (D10). -/
def execWrP1Par5 (_v : Byte) (s : State) : Host.Outcome State Fault Refusal :=
  ignored s

/-- WR_P1_CURR (R164): `curr_page <- v`, unchecked. -/
def execWrP1Curr (v : Byte) (s : State) : Host.Outcome State Fault Refusal :=
  .next (s.setCurrPage v)

/-- WR_P1_MAR0 (R165): `mchash[0] <- v`. -/
def execWrP1Mar0 (v : Byte) (s : State) : Host.Outcome State Fault Refusal :=
  .next (s.setMchash (s.mchash.set 0 v))

/-- WR_P1_MAR1 (R166): `mchash[1] <- v`. -/
def execWrP1Mar1 (v : Byte) (s : State) : Host.Outcome State Fault Refusal :=
  .next (s.setMchash (s.mchash.set 1 v))

/-- WR_P1_MAR2 (R167): `mchash[2] <- v`. -/
def execWrP1Mar2 (v : Byte) (s : State) : Host.Outcome State Fault Refusal :=
  .next (s.setMchash (s.mchash.set 2 v))

/-- WR_P1_MAR3 (R168): `mchash[3] <- v`. -/
def execWrP1Mar3 (v : Byte) (s : State) : Host.Outcome State Fault Refusal :=
  .next (s.setMchash (s.mchash.set 3 v))

/-- WR_P1_MAR4 (R169): `mchash[4] <- v`. -/
def execWrP1Mar4 (v : Byte) (s : State) : Host.Outcome State Fault Refusal :=
  .next (s.setMchash (s.mchash.set 4 v))

/-- WR_P1_MAR5 (R170): `mchash[5] <- v`. -/
def execWrP1Mar5 (v : Byte) (s : State) : Host.Outcome State Fault Refusal :=
  .next (s.setMchash (s.mchash.set 5 v))

/-- WR_P1_MAR6 (R171): `mchash[6] <- v`. -/
def execWrP1Mar6 (v : Byte) (s : State) : Host.Outcome State Fault Refusal :=
  .next (s.setMchash (s.mchash.set 6 v))

/-- WR_P1_MAR7 (R172): `mchash[7] <- v`. -/
def execWrP1Mar7 (v : Byte) (s : State) : Host.Outcome State Fault Refusal :=
  .next (s.setMchash (s.mchash.set 7 v))

end Sys2Proof.Machine
end

