-- ==== Sys2Proof/Machine/PageThree.lean ====
section
/-! DEFINITION. Page 3 (R101, R192, R193): reserved at every offset; the page-3 registers (R38) are not reached. -/

namespace Sys2Proof.Machine

/-- RD_P3_1 (R192): returns `ReservedRead(3, 0x1)`. -/
def execRdP31 (s : State) : Host.Outcome State Fault Refusal :=
  reservedReadOf 3 0x1 s

/-- RD_P3_2 (R192): returns `ReservedRead(3, 0x2)`. -/
def execRdP32 (s : State) : Host.Outcome State Fault Refusal :=
  reservedReadOf 3 0x2 s

/-- RD_P3_3 (R192): returns `ReservedRead(3, 0x3)`. -/
def execRdP33 (s : State) : Host.Outcome State Fault Refusal :=
  reservedReadOf 3 0x3 s

/-- RD_P3_4 (R192): returns `ReservedRead(3, 0x4)`. -/
def execRdP34 (s : State) : Host.Outcome State Fault Refusal :=
  reservedReadOf 3 0x4 s

/-- RD_P3_5 (R192): returns `ReservedRead(3, 0x5)`. -/
def execRdP35 (s : State) : Host.Outcome State Fault Refusal :=
  reservedReadOf 3 0x5 s

/-- RD_P3_6 (R192): returns `ReservedRead(3, 0x6)`. -/
def execRdP36 (s : State) : Host.Outcome State Fault Refusal :=
  reservedReadOf 3 0x6 s

/-- RD_P3_7 (R192): returns `ReservedRead(3, 0x7)`. -/
def execRdP37 (s : State) : Host.Outcome State Fault Refusal :=
  reservedReadOf 3 0x7 s

/-- RD_P3_8 (R192): returns `ReservedRead(3, 0x8)`. -/
def execRdP38 (s : State) : Host.Outcome State Fault Refusal :=
  reservedReadOf 3 0x8 s

/-- RD_P3_9 (R192): returns `ReservedRead(3, 0x9)`. -/
def execRdP39 (s : State) : Host.Outcome State Fault Refusal :=
  reservedReadOf 3 0x9 s

/-- RD_P3_A (R192): returns `ReservedRead(3, 0xA)`. -/
def execRdP3A (s : State) : Host.Outcome State Fault Refusal :=
  reservedReadOf 3 0xA s

/-- RD_P3_B (R192): returns `ReservedRead(3, 0xB)`. -/
def execRdP3B (s : State) : Host.Outcome State Fault Refusal :=
  reservedReadOf 3 0xB s

/-- RD_P3_C (R192): returns `ReservedRead(3, 0xC)`. -/
def execRdP3C (s : State) : Host.Outcome State Fault Refusal :=
  reservedReadOf 3 0xC s

/-- RD_P3_D (R192): returns `ReservedRead(3, 0xD)`. -/
def execRdP3D (s : State) : Host.Outcome State Fault Refusal :=
  reservedReadOf 3 0xD s

/-- RD_P3_E (R192): returns `ReservedRead(3, 0xE)`. -/
def execRdP3E (s : State) : Host.Outcome State Fault Refusal :=
  reservedReadOf 3 0xE s

/-- RD_P3_F (R192): returns `ReservedRead(3, 0xF)`. -/
def execRdP3F (s : State) : Host.Outcome State Fault Refusal :=
  reservedReadOf 3 0xF s

/-- WR_P3_1 (R193): nothing. -/
def execWrP31 (_v : Byte) (s : State) : Host.Outcome State Fault Refusal :=
  ignored s

/-- WR_P3_2 (R193): nothing. -/
def execWrP32 (_v : Byte) (s : State) : Host.Outcome State Fault Refusal :=
  ignored s

/-- WR_P3_3 (R193): nothing. -/
def execWrP33 (_v : Byte) (s : State) : Host.Outcome State Fault Refusal :=
  ignored s

/-- WR_P3_4 (R193): nothing. -/
def execWrP34 (_v : Byte) (s : State) : Host.Outcome State Fault Refusal :=
  ignored s

/-- WR_P3_5 (R193): nothing. -/
def execWrP35 (_v : Byte) (s : State) : Host.Outcome State Fault Refusal :=
  ignored s

/-- WR_P3_6 (R193): nothing. -/
def execWrP36 (_v : Byte) (s : State) : Host.Outcome State Fault Refusal :=
  ignored s

/-- WR_P3_7 (R193): nothing. -/
def execWrP37 (_v : Byte) (s : State) : Host.Outcome State Fault Refusal :=
  ignored s

/-- WR_P3_8 (R193): nothing. -/
def execWrP38 (_v : Byte) (s : State) : Host.Outcome State Fault Refusal :=
  ignored s

/-- WR_P3_9 (R193): nothing. -/
def execWrP39 (_v : Byte) (s : State) : Host.Outcome State Fault Refusal :=
  ignored s

/-- WR_P3_A (R193): nothing. -/
def execWrP3A (_v : Byte) (s : State) : Host.Outcome State Fault Refusal :=
  ignored s

/-- WR_P3_B (R193): nothing. -/
def execWrP3B (_v : Byte) (s : State) : Host.Outcome State Fault Refusal :=
  ignored s

/-- WR_P3_C (R193): nothing. -/
def execWrP3C (_v : Byte) (s : State) : Host.Outcome State Fault Refusal :=
  ignored s

/-- WR_P3_D (R193): nothing. -/
def execWrP3D (_v : Byte) (s : State) : Host.Outcome State Fault Refusal :=
  ignored s

/-- WR_P3_E (R193): nothing. -/
def execWrP3E (_v : Byte) (s : State) : Host.Outcome State Fault Refusal :=
  ignored s

/-- WR_P3_F (R193): nothing. -/
def execWrP3F (_v : Byte) (s : State) : Host.Outcome State Fault Refusal :=
  ignored s

end Sys2Proof.Machine
end

