-- ==== Sys2Proof/Machine/PageTwo.lean ====
section
/-! DEFINITION. Page 2 (R99, R100, R173 to R191): read-back of the configuration, and the pointer registers no engine uses. -/

namespace Sys2Proof.Machine

/-- RD_P2_PSTART (R173): returns `page_start`. -/
def execRdP2Pstart (s : State) : Host.Outcome State Fault Refusal :=
  returning s.pageStart s

/-- RD_P2_PSTOP (R174): returns `page_stop`. -/
def execRdP2Pstop (s : State) : Host.Outcome State Fault Refusal :=
  returning s.pageStop s

/-- RD_P2_RNPP (R175): returns `rempkt_ptr`. -/
def execRdP2Rnpp (s : State) : Host.Outcome State Fault Refusal :=
  returning s.rempktPtr s

/-- RD_P2_TPSR (R176): returns `tx_page_start`. -/
def execRdP2Tpsr (s : State) : Host.Outcome State Fault Refusal :=
  returning s.txPageStart s

/-- RD_P2_LNPP (R177): returns `localpkt_ptr`. -/
def execRdP2Lnpp (s : State) : Host.Outcome State Fault Refusal :=
  returning s.localpktPtr s

/-- RD_P2_ACU (R178): returns `address_cnt[15:8]`; the high byte is at the lower offset (R77). -/
def execRdP2Acu (s : State) : Host.Outcome State Fault Refusal :=
  returning (highByte s.addressCnt) s

/-- RD_P2_ACL (R179): returns `address_cnt[7:0]`. -/
def execRdP2Acl (s : State) : Host.Outcome State Fault Refusal :=
  returning (lowByte s.addressCnt) s

/-- RD_P2_RSV8 (R180): returns `ReservedRead(2, 0x8)`. -/
def execRdP2Rsv8 (s : State) : Host.Outcome State Fault Refusal :=
  reservedReadOf 2 0x8 s

/-- RD_P2_RSV9 (R180): returns `ReservedRead(2, 0x9)`. -/
def execRdP2Rsv9 (s : State) : Host.Outcome State Fault Refusal :=
  reservedReadOf 2 0x9 s

/-- RD_P2_RSVA (R180): returns `ReservedRead(2, 0xA)`. -/
def execRdP2Rsva (s : State) : Host.Outcome State Fault Refusal :=
  reservedReadOf 2 0xA s

/-- RD_P2_RSVB (R180): returns `ReservedRead(2, 0xB)`. -/
def execRdP2Rsvb (s : State) : Host.Outcome State Fault Refusal :=
  reservedReadOf 2 0xB s

/-- RD_P2_RCR (R181): returns RCR, reserved bits reading 0. -/
def execRdP2Rcr (s : State) : Host.Outcome State Fault Refusal :=
  returning s.rcr.toByte s

/-- RD_P2_TCR (R182): returns TCR, reserved bits reading 0. -/
def execRdP2Tcr (s : State) : Host.Outcome State Fault Refusal :=
  returning s.tcr.toByte s

/-- RD_P2_DCR (R183): returns DCR, reserved bits reading 0. -/
def execRdP2Dcr (s : State) : Host.Outcome State Fault Refusal :=
  returning s.dcr.toByte s

/-- RD_P2_IMR (R184): returns IMR, reserved bits reading 0. -/
def execRdP2Imr (s : State) : Host.Outcome State Fault Refusal :=
  returning s.imr.toByte s

/-- WR_P2_CLDA0 (R185): the low half of `local_dma`. -/
def execWrP2Clda0 (v : Byte) (s : State) : Host.Outcome State Fault Refusal :=
  .next (s.setLocalDma (setLowByte s.localDma v))

/-- WR_P2_CLDA1 (R186): the high half of `local_dma`. -/
def execWrP2Clda1 (v : Byte) (s : State) : Host.Outcome State Fault Refusal :=
  .next (s.setLocalDma (setHighByte s.localDma v))

/-- WR_P2_RNPP (R187): `rempkt_ptr <- v`. -/
def execWrP2Rnpp (v : Byte) (s : State) : Host.Outcome State Fault Refusal :=
  .next (s.setRempktPtr v)

/-- WR_P2_LNPP (R189): `localpkt_ptr <- v`. -/
def execWrP2Lnpp (v : Byte) (s : State) : Host.Outcome State Fault Refusal :=
  .next (s.setLocalpktPtr v)

/-- WR_P2_ACU (R190): the high half of `address_cnt`. -/
def execWrP2Acu (v : Byte) (s : State) : Host.Outcome State Fault Refusal :=
  .next (s.setAddressCnt (setHighByte s.addressCnt v))

/-- WR_P2_ACL (R191): the low half of `address_cnt`. -/
def execWrP2Acl (v : Byte) (s : State) : Host.Outcome State Fault Refusal :=
  .next (s.setAddressCnt (setLowByte s.addressCnt v))

/-- WR_P2_RSV4 (R188): nothing, although a read there returns `tx_page_start` (R176). -/
def execWrP2Rsv4 (_v : Byte) (s : State) : Host.Outcome State Fault Refusal :=
  ignored s

/-- WR_P2_RSV8 (R188): nothing. -/
def execWrP2Rsv8 (_v : Byte) (s : State) : Host.Outcome State Fault Refusal :=
  ignored s

/-- WR_P2_RSV9 (R188): nothing. -/
def execWrP2Rsv9 (_v : Byte) (s : State) : Host.Outcome State Fault Refusal :=
  ignored s

/-- WR_P2_RSVA (R188): nothing. -/
def execWrP2Rsva (_v : Byte) (s : State) : Host.Outcome State Fault Refusal :=
  ignored s

/-- WR_P2_RSVB (R188): nothing. -/
def execWrP2Rsvb (_v : Byte) (s : State) : Host.Outcome State Fault Refusal :=
  ignored s

/-- WR_P2_RSVC (R188): nothing. -/
def execWrP2Rsvc (_v : Byte) (s : State) : Host.Outcome State Fault Refusal :=
  ignored s

/-- WR_P2_RSVD (R188): nothing. -/
def execWrP2Rsvd (_v : Byte) (s : State) : Host.Outcome State Fault Refusal :=
  ignored s

/-- WR_P2_RSVE (R188): nothing. -/
def execWrP2Rsve (_v : Byte) (s : State) : Host.Outcome State Fault Refusal :=
  ignored s

/-- WR_P2_RSVF (R188): nothing. -/
def execWrP2Rsvf (_v : Byte) (s : State) : Host.Outcome State Fault Refusal :=
  ignored s

end Sys2Proof.Machine
end

