-- ==== Sys2Proof/Machine/PageZeroReads.lean ====
section
/-! DEFINITION. The reads of page 0 (R96, R113 to R127). None changes the block. -/

namespace Sys2Proof.Machine

/-- RD_P0_CLDA0 (R113): returns `local_dma[7:0]`. -/
def execRdP0Clda0 (s : State) : Host.Outcome State Fault Refusal :=
  returning (lowByte s.localDma) s

/-- RD_P0_CLDA1 (R114): returns `local_dma[15:8]`. -/
def execRdP0Clda1 (s : State) : Host.Outcome State Fault Refusal :=
  returning (highByte s.localDma) s

/-- RD_P0_BNRY (R115): returns `bound_ptr`. -/
def execRdP0Bnry (s : State) : Host.Outcome State Fault Refusal :=
  returning s.boundPtr s

/-- RD_P0_TSR (R116): returns TSR; reading does not clear it. -/
def execRdP0Tsr (s : State) : Host.Outcome State Fault Refusal :=
  returning s.tsr.toByte s

/-- RD_P0_NCR (R117): returns `num_coll`. -/
def execRdP0Ncr (s : State) : Host.Outcome State Fault Refusal :=
  returning s.numColl s

/-- RD_P0_FIFO (R118): returns `fifo`. -/
def execRdP0Fifo (s : State) : Host.Outcome State Fault Refusal :=
  returning s.fifo s

/-- RD_P0_ISR (R119): returns ISR; reading does not clear it. -/
def execRdP0Isr (s : State) : Host.Outcome State Fault Refusal :=
  returning s.isr.toByte s

/-- RD_P0_CRDA0 (R120): returns `remote_dma[7:0]`. -/
def execRdP0Crda0 (s : State) : Host.Outcome State Fault Refusal :=
  returning (lowByte s.remoteDma) s

/-- RD_P0_CRDA1 (R121): returns `remote_dma[15:8]`. -/
def execRdP0Crda1 (s : State) : Host.Outcome State Fault Refusal :=
  returning (highByte s.remoteDma) s

/-- RD_P0_RSV0A (R122): returns `ReservedRead(0, 0xA)`. -/
def execRdP0Rsv0a (s : State) : Host.Outcome State Fault Refusal :=
  reservedReadOf 0 0xA s

/-- RD_P0_RSV0B (R123): returns `ReservedRead(0, 0xB)`. -/
def execRdP0Rsv0b (s : State) : Host.Outcome State Fault Refusal :=
  reservedReadOf 0 0xB s

/-- RD_P0_RSR (R124): returns RSR; reading does not clear it. -/
def execRdP0Rsr (s : State) : Host.Outcome State Fault Refusal :=
  returning s.rsr.toByte s

/-- RD_P0_CNTR0 (R125): returns `tallycnt_0`. -/
def execRdP0Cntr0 (s : State) : Host.Outcome State Fault Refusal :=
  returning s.tallycnt0 s

/-- RD_P0_CNTR1 (R126): returns `tallycnt_1`. -/
def execRdP0Cntr1 (s : State) : Host.Outcome State Fault Refusal :=
  returning s.tallycnt1 s

/-- RD_P0_CNTR2 (R127): returns `tallycnt_2`. -/
def execRdP0Cntr2 (s : State) : Host.Outcome State Fault Refusal :=
  returning s.tallycnt2 s

end Sys2Proof.Machine
end

