-- ==== Sys2Proof/Machine/PageZeroWrites.lean ====
section
/-! DEFINITION. The writes of page 0 (R97, R128 to R142). -/

namespace Sys2Proof.Machine

/-- WR_P0_PSTART (R128): `page_start <- v`, unchecked; no other pointer moves. -/
def execWrP0Pstart (v : Byte) (s : State) : Host.Outcome State Fault Refusal :=
  .next (s.setPageStart v)

/-- WR_P0_PSTOP (R129): `page_stop <- v`, unchecked. -/
def execWrP0Pstop (v : Byte) (s : State) : Host.Outcome State Fault Refusal :=
  .next (s.setPageStop v)

/-- WR_P0_BNRY (R130): `bound_ptr <- v`, unchecked. -/
def execWrP0Bnry (v : Byte) (s : State) : Host.Outcome State Fault Refusal :=
  .next (s.setBoundPtr v)

/-- WR_P0_TPSR (R131): `tx_page_start <- v`, unchecked. -/
def execWrP0Tpsr (v : Byte) (s : State) : Host.Outcome State Fault Refusal :=
  .next (s.setTxPageStart v)

/-- WR_P0_TBCR0 (R132): the low half of `tx_bytes`, the high half kept. -/
def execWrP0Tbcr0 (v : Byte) (s : State) : Host.Outcome State Fault Refusal :=
  .next (s.setTxBytes (setLowByte s.txBytes v))

/-- WR_P0_TBCR1 (R133): the high half of `tx_bytes`, the low half kept. -/
def execWrP0Tbcr1 (v : Byte) (s : State) : Host.Outcome State Fault Refusal :=
  .next (s.setTxBytes (setHighByte s.txBytes v))

/-- WR_P0_ISR (R134): write-1-to-clear, every bit; then `irq_level` falls if the masked status is 0 (R275). Never asserts. -/
def execWrP0Isr (v : Byte) (s : State) : Host.Outcome State Fault Refusal :=
  .next (lowerIrq (clearIsr v s))

/-- WR_P0_RSAR0 (R135): the low half of `remote_start`, and `remote_dma` from the whole of it (D12). -/
def execWrP0Rsar0 (v : Byte) (s : State) : Host.Outcome State Fault Refusal :=
  .next (loadRemoteStart (setLowByte s.remoteStart v) s)

/-- WR_P0_RSAR1 (R136): the high half of `remote_start`, and `remote_dma` from the whole of it (D12). -/
def execWrP0Rsar1 (v : Byte) (s : State) : Host.Outcome State Fault Refusal :=
  .next (loadRemoteStart (setHighByte s.remoteStart v) s)

/-- WR_P0_RBCR0 (R137): the low half of `remote_bytes`; `ISR.rdma_done` is not touched. -/
def execWrP0Rbcr0 (v : Byte) (s : State) : Host.Outcome State Fault Refusal :=
  .next (s.setRemoteBytes (setLowByte s.remoteBytes v))

/-- WR_P0_RBCR1 (R138): the high half of `remote_bytes`; `ISR.rdma_done` is not touched. -/
def execWrP0Rbcr1 (v : Byte) (s : State) : Host.Outcome State Fault Refusal :=
  .next (s.setRemoteBytes (setHighByte s.remoteBytes v))

/-- WR_P0_RCR (R139): `RCR <- v & 0x3F`. -/
def execWrP0Rcr (v : Byte) (s : State) : Host.Outcome State Fault Refusal :=
  .next (s.setRcr (Rcr.ofByte v))

/-- WR_P0_TCR (R140): `TCR <- v & 0x1F`. -/
def execWrP0Tcr (v : Byte) (s : State) : Host.Outcome State Fault Refusal :=
  .next (s.setTcr (Tcr.ofByte v))

/-- WR_P0_DCR (R141): `DCR <- v & 0x7F`. -/
def execWrP0Dcr (v : Byte) (s : State) : Host.Outcome State Fault Refusal :=
  .next (s.setDcr (Dcr.ofByte v))

/-- WR_P0_IMR (R142): `IMR <- v & 0x7F`; neither asserts nor changes `irq_level` (R276). -/
def execWrP0Imr (v : Byte) (s : State) : Host.Outcome State Fault Refusal :=
  .next (s.setImr (Imr.ofByte v))

end Sys2Proof.Machine
end

