-- ==== Sys2Proof/Machine/ResetPort.lean ====
section
/-! DEFINITION. The reset port, offset 0x1F of every page (R95, R209, R210). -/

namespace Sys2Proof.Machine

/-- RD_RESET (R209): `Reset()`, and the byte returned is a free value (D29). -/
def execRdReset (s : State) : Host.Outcome State Fault Refusal :=
  returning (drawnByte s) (afterDraws 1 (resetBlock s))

/-- WR_RESET (R210): nothing; a write does not reset. -/
def execWrReset (_v : Byte) (s : State) : Host.Outcome State Fault Refusal :=
  ignored s

end Sys2Proof.Machine
end

