-- ==== Sys2Proof/Machine/Dispatch.lean ====
section
/-! DEFINITION. One arm for each access of the opcode table. -/

namespace Sys2Proof.Machine

def exec (i : Instr) (s : State) : Host.Outcome State Fault Refusal :=
  match i with
  | .rdCr => Sys2Proof.Machine.execRdCr s
  | .wrCr v => Sys2Proof.Machine.execWrCr v s
  | .rdP0Clda0 => Sys2Proof.Machine.execRdP0Clda0 s
  | .rdP0Clda1 => Sys2Proof.Machine.execRdP0Clda1 s
  | .rdP0Bnry => Sys2Proof.Machine.execRdP0Bnry s
  | .rdP0Tsr => Sys2Proof.Machine.execRdP0Tsr s
  | .rdP0Ncr => Sys2Proof.Machine.execRdP0Ncr s
  | .rdP0Fifo => Sys2Proof.Machine.execRdP0Fifo s
  | .rdP0Isr => Sys2Proof.Machine.execRdP0Isr s
  | .rdP0Crda0 => Sys2Proof.Machine.execRdP0Crda0 s
  | .rdP0Crda1 => Sys2Proof.Machine.execRdP0Crda1 s
  | .rdP0Rsv0a => Sys2Proof.Machine.execRdP0Rsv0a s
  | .rdP0Rsv0b => Sys2Proof.Machine.execRdP0Rsv0b s
  | .rdP0Rsr => Sys2Proof.Machine.execRdP0Rsr s
  | .rdP0Cntr0 => Sys2Proof.Machine.execRdP0Cntr0 s
  | .rdP0Cntr1 => Sys2Proof.Machine.execRdP0Cntr1 s
  | .rdP0Cntr2 => Sys2Proof.Machine.execRdP0Cntr2 s
  | .wrP0Pstart v => Sys2Proof.Machine.execWrP0Pstart v s
  | .wrP0Pstop v => Sys2Proof.Machine.execWrP0Pstop v s
  | .wrP0Bnry v => Sys2Proof.Machine.execWrP0Bnry v s
  | .wrP0Tpsr v => Sys2Proof.Machine.execWrP0Tpsr v s
  | .wrP0Tbcr0 v => Sys2Proof.Machine.execWrP0Tbcr0 v s
  | .wrP0Tbcr1 v => Sys2Proof.Machine.execWrP0Tbcr1 v s
  | .wrP0Isr v => Sys2Proof.Machine.execWrP0Isr v s
  | .wrP0Rsar0 v => Sys2Proof.Machine.execWrP0Rsar0 v s
  | .wrP0Rsar1 v => Sys2Proof.Machine.execWrP0Rsar1 v s
  | .wrP0Rbcr0 v => Sys2Proof.Machine.execWrP0Rbcr0 v s
  | .wrP0Rbcr1 v => Sys2Proof.Machine.execWrP0Rbcr1 v s
  | .wrP0Rcr v => Sys2Proof.Machine.execWrP0Rcr v s
  | .wrP0Tcr v => Sys2Proof.Machine.execWrP0Tcr v s
  | .wrP0Dcr v => Sys2Proof.Machine.execWrP0Dcr v s
  | .wrP0Imr v => Sys2Proof.Machine.execWrP0Imr v s
  | .rdP1Par0 => Sys2Proof.Machine.execRdP1Par0 s
  | .rdP1Par1 => Sys2Proof.Machine.execRdP1Par1 s
  | .rdP1Par2 => Sys2Proof.Machine.execRdP1Par2 s
  | .rdP1Par3 => Sys2Proof.Machine.execRdP1Par3 s
  | .rdP1Par4 => Sys2Proof.Machine.execRdP1Par4 s
  | .rdP1Par5 => Sys2Proof.Machine.execRdP1Par5 s
  | .rdP1Curr => Sys2Proof.Machine.execRdP1Curr s
  | .rdP1Mar0 => Sys2Proof.Machine.execRdP1Mar0 s
  | .rdP1Mar1 => Sys2Proof.Machine.execRdP1Mar1 s
  | .rdP1Mar2 => Sys2Proof.Machine.execRdP1Mar2 s
  | .rdP1Mar3 => Sys2Proof.Machine.execRdP1Mar3 s
  | .rdP1Mar4 => Sys2Proof.Machine.execRdP1Mar4 s
  | .rdP1Mar5 => Sys2Proof.Machine.execRdP1Mar5 s
  | .rdP1Mar6 => Sys2Proof.Machine.execRdP1Mar6 s
  | .rdP1Mar7 => Sys2Proof.Machine.execRdP1Mar7 s
  | .wrP1Par0 v => Sys2Proof.Machine.execWrP1Par0 v s
  | .wrP1Par1 v => Sys2Proof.Machine.execWrP1Par1 v s
  | .wrP1Par2 v => Sys2Proof.Machine.execWrP1Par2 v s
  | .wrP1Par3 v => Sys2Proof.Machine.execWrP1Par3 v s
  | .wrP1Par4 v => Sys2Proof.Machine.execWrP1Par4 v s
  | .wrP1Par5 v => Sys2Proof.Machine.execWrP1Par5 v s
  | .wrP1Curr v => Sys2Proof.Machine.execWrP1Curr v s
  | .wrP1Mar0 v => Sys2Proof.Machine.execWrP1Mar0 v s
  | .wrP1Mar1 v => Sys2Proof.Machine.execWrP1Mar1 v s
  | .wrP1Mar2 v => Sys2Proof.Machine.execWrP1Mar2 v s
  | .wrP1Mar3 v => Sys2Proof.Machine.execWrP1Mar3 v s
  | .wrP1Mar4 v => Sys2Proof.Machine.execWrP1Mar4 v s
  | .wrP1Mar5 v => Sys2Proof.Machine.execWrP1Mar5 v s
  | .wrP1Mar6 v => Sys2Proof.Machine.execWrP1Mar6 v s
  | .wrP1Mar7 v => Sys2Proof.Machine.execWrP1Mar7 v s
  | .rdP2Pstart => Sys2Proof.Machine.execRdP2Pstart s
  | .rdP2Pstop => Sys2Proof.Machine.execRdP2Pstop s
  | .rdP2Rnpp => Sys2Proof.Machine.execRdP2Rnpp s
  | .rdP2Tpsr => Sys2Proof.Machine.execRdP2Tpsr s
  | .rdP2Lnpp => Sys2Proof.Machine.execRdP2Lnpp s
  | .rdP2Acu => Sys2Proof.Machine.execRdP2Acu s
  | .rdP2Acl => Sys2Proof.Machine.execRdP2Acl s
  | .rdP2Rsv8 => Sys2Proof.Machine.execRdP2Rsv8 s
  | .rdP2Rsv9 => Sys2Proof.Machine.execRdP2Rsv9 s
  | .rdP2Rsva => Sys2Proof.Machine.execRdP2Rsva s
  | .rdP2Rsvb => Sys2Proof.Machine.execRdP2Rsvb s
  | .rdP2Rcr => Sys2Proof.Machine.execRdP2Rcr s
  | .rdP2Tcr => Sys2Proof.Machine.execRdP2Tcr s
  | .rdP2Dcr => Sys2Proof.Machine.execRdP2Dcr s
  | .rdP2Imr => Sys2Proof.Machine.execRdP2Imr s
  | .wrP2Clda0 v => Sys2Proof.Machine.execWrP2Clda0 v s
  | .wrP2Clda1 v => Sys2Proof.Machine.execWrP2Clda1 v s
  | .wrP2Rnpp v => Sys2Proof.Machine.execWrP2Rnpp v s
  | .wrP2Rsv4 v => Sys2Proof.Machine.execWrP2Rsv4 v s
  | .wrP2Lnpp v => Sys2Proof.Machine.execWrP2Lnpp v s
  | .wrP2Acu v => Sys2Proof.Machine.execWrP2Acu v s
  | .wrP2Acl v => Sys2Proof.Machine.execWrP2Acl v s
  | .wrP2Rsv8 v => Sys2Proof.Machine.execWrP2Rsv8 v s
  | .wrP2Rsv9 v => Sys2Proof.Machine.execWrP2Rsv9 v s
  | .wrP2Rsva v => Sys2Proof.Machine.execWrP2Rsva v s
  | .wrP2Rsvb v => Sys2Proof.Machine.execWrP2Rsvb v s
  | .wrP2Rsvc v => Sys2Proof.Machine.execWrP2Rsvc v s
  | .wrP2Rsvd v => Sys2Proof.Machine.execWrP2Rsvd v s
  | .wrP2Rsve v => Sys2Proof.Machine.execWrP2Rsve v s
  | .wrP2Rsvf v => Sys2Proof.Machine.execWrP2Rsvf v s
  | .rdP31 => Sys2Proof.Machine.execRdP31 s
  | .rdP32 => Sys2Proof.Machine.execRdP32 s
  | .rdP33 => Sys2Proof.Machine.execRdP33 s
  | .rdP34 => Sys2Proof.Machine.execRdP34 s
  | .rdP35 => Sys2Proof.Machine.execRdP35 s
  | .rdP36 => Sys2Proof.Machine.execRdP36 s
  | .rdP37 => Sys2Proof.Machine.execRdP37 s
  | .rdP38 => Sys2Proof.Machine.execRdP38 s
  | .rdP39 => Sys2Proof.Machine.execRdP39 s
  | .rdP3A => Sys2Proof.Machine.execRdP3A s
  | .rdP3B => Sys2Proof.Machine.execRdP3B s
  | .rdP3C => Sys2Proof.Machine.execRdP3C s
  | .rdP3D => Sys2Proof.Machine.execRdP3D s
  | .rdP3E => Sys2Proof.Machine.execRdP3E s
  | .rdP3F => Sys2Proof.Machine.execRdP3F s
  | .wrP31 v => Sys2Proof.Machine.execWrP31 v s
  | .wrP32 v => Sys2Proof.Machine.execWrP32 v s
  | .wrP33 v => Sys2Proof.Machine.execWrP33 v s
  | .wrP34 v => Sys2Proof.Machine.execWrP34 v s
  | .wrP35 v => Sys2Proof.Machine.execWrP35 v s
  | .wrP36 v => Sys2Proof.Machine.execWrP36 v s
  | .wrP37 v => Sys2Proof.Machine.execWrP37 v s
  | .wrP38 v => Sys2Proof.Machine.execWrP38 v s
  | .wrP39 v => Sys2Proof.Machine.execWrP39 v s
  | .wrP3A v => Sys2Proof.Machine.execWrP3A v s
  | .wrP3B v => Sys2Proof.Machine.execWrP3B v s
  | .wrP3C v => Sys2Proof.Machine.execWrP3C v s
  | .wrP3D v => Sys2Proof.Machine.execWrP3D v s
  | .wrP3E v => Sys2Proof.Machine.execWrP3E v s
  | .wrP3F v => Sys2Proof.Machine.execWrP3F v s
  | .rdData10 => Sys2Proof.Machine.execRdData10 s
  | .rdData11 => Sys2Proof.Machine.execRdData11 s
  | .rdData12 => Sys2Proof.Machine.execRdData12 s
  | .rdData13 => Sys2Proof.Machine.execRdData13 s
  | .rdData14 => Sys2Proof.Machine.execRdData14 s
  | .rdData15 => Sys2Proof.Machine.execRdData15 s
  | .rdData16 => Sys2Proof.Machine.execRdData16 s
  | .rdData17 => Sys2Proof.Machine.execRdData17 s
  | .rdData18 => Sys2Proof.Machine.execRdData18 s
  | .rdData19 => Sys2Proof.Machine.execRdData19 s
  | .rdData1a => Sys2Proof.Machine.execRdData1a s
  | .rdData1b => Sys2Proof.Machine.execRdData1b s
  | .rdData1c => Sys2Proof.Machine.execRdData1c s
  | .rdData1d => Sys2Proof.Machine.execRdData1d s
  | .rdData1e => Sys2Proof.Machine.execRdData1e s
  | .wrData10 v => Sys2Proof.Machine.execWrData10 v s
  | .wrData11 v => Sys2Proof.Machine.execWrData11 v s
  | .wrData12 v => Sys2Proof.Machine.execWrData12 v s
  | .wrData13 v => Sys2Proof.Machine.execWrData13 v s
  | .wrData14 v => Sys2Proof.Machine.execWrData14 v s
  | .wrData15 v => Sys2Proof.Machine.execWrData15 v s
  | .wrData16 v => Sys2Proof.Machine.execWrData16 v s
  | .wrData17 v => Sys2Proof.Machine.execWrData17 v s
  | .wrData18 v => Sys2Proof.Machine.execWrData18 v s
  | .wrData19 v => Sys2Proof.Machine.execWrData19 v s
  | .wrData1a v => Sys2Proof.Machine.execWrData1a v s
  | .wrData1b v => Sys2Proof.Machine.execWrData1b v s
  | .wrData1c v => Sys2Proof.Machine.execWrData1c v s
  | .wrData1d v => Sys2Proof.Machine.execWrData1d v s
  | .wrData1e v => Sys2Proof.Machine.execWrData1e v s
  | .rdReset => Sys2Proof.Machine.execRdReset s
  | .wrReset v => Sys2Proof.Machine.execWrReset v s

end Sys2Proof.Machine
end

