-- ==== Sys2Proof/Machine/Bus.lean ====
section
/-! DEFINITION. How the agents reach the block (R6): the port decode, the bytes of a bus cycle, and one step of each agent. The step function only calls what stands here. -/

namespace Sys2Proof.Machine

/-- The port offset `off = A - B` of a port the block claims, `B+0x00 .. B+0x1F`; none for any other port (R90). -/
def claimedOffset (c : Config) (port : Nat) : Option (BitVec 5) :=
  if c.ioBase ≤ port ∧ port ≤ c.ioBase + 0x1F then some (BitVec.ofNat 5 (port - c.ioBase)) else none

/-- The bytes of a read cycle at an offset: the descriptor alone, its page being `CR.pgsel` as the access begins (R91, R93). -/
def readCycle (s : State) (off : BitVec 5) : List Byte := [descriptor false s.cr.pgsel off]

/-- The bytes of a write cycle: the descriptor and the data byte (R91, R103). -/
def writeCycle (s : State) (off : BitVec 5) (v : Byte) : List Byte := [descriptor true s.cr.pgsel off, v]

/-- Run the access the bytes of a cycle decode to. R108 says they always decode. -/
def runCycle (bytes : List Byte) (s : State) : Host.Outcome State Fault Refusal :=
  match decode bytes with
  | .ok (i, _) => exec i s
  | .error _ => .refused .undecodable

/-- A bus cycle at a port: a port the block does not claim is not its access and changes nothing (R90; log entry 3). -/
def busCycle (port : Nat) (cycle : BitVec 5 → List Byte) (s : State) : Host.Outcome State Fault Refusal :=
  match claimedOffset s.cfg port with
  | some off => runCycle (cycle off) s
  | none => .next s

/-- A step of the transmit-completion agent (R257): `TxComplete()` while `tx_pending` = 1; else it has no step (log entry 12). -/
def completeTransmit (s : State) : Host.Outcome State Fault Refusal :=
  if s.txPending then .next (txComplete s) else .refused .noCompletionPending

/-- One whole step of an agent (R6, R80). -/
def perform (e : Event) (s : State) : Host.Outcome State Fault Refusal :=
  match e with
  | .read port => busCycle port (readCycle s) s
  | .write port v => busCycle port (fun off => writeCycle s off v) s
  | .frame bytes => .next (receive bytes s)
  | .txdone => completeTransmit s
  | .init mac irq => .next (initBlock mac irq s)

/-- Take the next event from the queue: it is gone, and no byte has been returned yet (log entries 1 and 4). -/
def takeEvent (rest : List Event) (s : State) : State := (s.setInputs rest).setReadData none

/-- Perform events one after the other, with nothing between them: the state they leave, and the bytes their reads returned, oldest first (R11 `return v`). -/
def performAll (events : List Event) (s : State) : Host.Outcome (State × List Byte) Fault Refusal :=
  match events with
  | [] => .next (s, [])
  | e :: rest =>
    match perform e (takeEvent s.inputs s) with
    | .next t =>
      match performAll rest t with
      | .next (u, bytes) => .next (u, t.readData.toList ++ bytes)
      | .fault r => .fault r
      | .refused r => .refused r
    | .fault r => .fault r
    | .refused r => .refused r

/-! ### The syntax of port-access programs (R106, R107), as events and lists of events (log entry 21) -/

/-- `outb OFF, VAL` (R106). -/
def outb (c : Config) (off : BitVec 5) (v : Byte) : Event := .write (c.ioBase + off.toNat) v

/-- `inb OFF` (R106). -/
def inb (c : Config) (off : BitVec 5) : Event := .read (c.ioBase + off.toNat)

/-- `outw OFF, W`: two byte writes, the low byte first (R78, R107). -/
def outw (c : Config) (off : BitVec 5) (w : Word) : List Event :=
  [.write (c.ioBase + off.toNat) (lowByte w), .write (c.ioBase + off.toNat + 1) (highByte w)]

/-- `inw OFF`: two byte reads, the lower port first (R78, R107). -/
def inw (c : Config) (off : BitVec 5) : List Event :=
  [.read (c.ioBase + off.toNat), .read (c.ioBase + off.toNat + 1)]

/-- The result of `inw` from the bytes its two reads return: the first byte in bits 7:0 (R107). Where the second port is not the block's (`OFF` = 0x1F) the block returns one byte and no word. -/
def inwResult (bytes : List Byte) : Option Word :=
  match bytes with
  | [low, high] => some (high ++ low)
  | _ => none

/-- `insb OFF, n`: `n` byte reads (R107). -/
def insb (c : Config) (off : BitVec 5) (n : Nat) : List Event := List.replicate n (inb c off)

/-- `outsb OFF, bytes`: one byte write for each byte, in order (R107). -/
def outsb (c : Config) (off : BitVec 5) (bytes : List Byte) : List Event := bytes.map (outb c off)

/-- `page n`: `outb 00, VAL` for a VAL with bits 7:6 = `n`; the writer chooses its bits 5:0 (R107). -/
def page (c : Config) (n : BitVec 2) (rest : BitVec 6) : Event := outb c 0 (n ++ rest)

/-- The event that runs the access of a table word: its bus cycle at the block's own port. -/
def cycleEvent (c : Config) (k v : Byte) : Event :=
  if descriptorIsWrite k then outb c (descriptorOffset k) v else inb c (descriptorOffset k)

/-- Select the page a descriptor names, where its offset is one that the page selects for (R91 to R93). -/
def selectPage (k : Byte) (s : State) : State :=
  if ignoresPage (descriptorOffset k) then s else s.setCr { s.cr with pgsel := descriptorPage k }

end Sys2Proof.Machine
end

