-- ==== Sys2Proof/Machine/Step.lean ====
section
/-! DEFINITION. One step of the machine: the next event of the queue, performed whole (R6, R80). -/

namespace Sys2Proof.Machine

/-- One step. The block itself never starts one (R6): with no event queued nothing happens (log entry 2). -/
def step (s : State) : Host.Outcome State Fault Refusal :=
  match s.inputs with
  | [] => .next s
  | e :: rest => perform e (takeEvent rest s)

/-- Place the access of a table word where `step` takes its next event: its bus cycle at the head of the queue, and its page selected (log entry 15). -/
def State.withFetchWord (s : State) (nbits w : Nat) : State :=
  let k := BitVec.ofNat 8 (w % 2 ^ nbits)
  let v := BitVec.ofNat 8 (w % 2 ^ nbits / 256)
  selectPage k (s.setInputs (cycleEvent s.cfg k v :: s.inputs))

end Sys2Proof.Machine
end

