-- ==== Sys2Proof/WellFormed.lean ====
section
/-! DEFINITION. What is well formed: the parameters (R71, R85), an event (R70), an access. -/

namespace Sys2Proof

/-- The parameter constraints: `32 <= MEMSTART` and `MEMEND <= 0x10000` (R71), and the block's 32 ports inside the 16-bit port space that `B` addresses (R7, R85). -/
def Config.wf (c : Config) : Bool :=
  decide (32 ≤ c.memStart) && decide (c.memEnd ≤ 0x10000) && decide (c.ioBase + 0x1F ≤ 0xFFFF)

/-- An access is well formed whatever its data byte is: no encoding is illegal, and a reserved bit of a written value is dropped, not refused (R104, R108). -/
def Instr.wf (_ : Instr) : Bool := true

/-- A port access names a port of the 16-bit port space (R7, R70); every other event is well formed (R220: any length of frame). -/
def Machine.Event.wf (e : Machine.Event) : Bool :=
  match e with
  | .read port => decide (port ≤ 0xFFFF)
  | .write port _ => decide (port ≤ 0xFFFF)
  | .frame _ => true
  | .txdone => true
  | .init _ _ => true

end Sys2Proof
end

