-- ==== Sys2Proof/Safety.lean ====
section
/-! DEFINITION. The terms claims about the block are stated in: its invariant, what an access reads or writes as, who may change a register, the ring as a guest reads it, and transfers of several data-port accesses. -/

namespace Sys2Proof.Machine

/-! ### The invariant of every reachable state -/

/-- What every step of the block keeps. -/
structure State.Inv (s : State) : Prop where
  /-- The buffer memory is in its canonical form and within MEMSIZE (R40). -/
  memory : Memory.wf s.mem
  /-- The parameters meet their constraints (R71, R85). -/
  params : s.cfg.wf = true
  /-- `rdma_cmd` never reads 0 (R111, R112). -/
  command : s.cr.rdmaCmd ≠ 0#3
  /-- `CR.tx_packet` equals `tx_pending` at every step boundary (R42). -/
  transmitting : s.cr.txPacket = s.txPending
  /-- With `TX_DEFERRED` false `tx_pending` is never set between steps (R42). -/
  synchronous : s.cfg.txDeferred = false → s.txPending = false
  /-- ISR bits 2 to 5 always read 0 (R22). -/
  isrUnset : s.isr.rxErr = false ∧ s.isr.txErr = false ∧ s.isr.overwrite = false ∧ s.isr.cntOflow = false
  /-- Only `tx_ok` of TSR is ever set (R26). -/
  tsrUnset : s.tsr = { txOk := s.tsr.txOk }
  /-- Only `rx_ok` and `rx_mbit` of RSR are ever set (R28). -/
  rsrUnset : s.rsr = { rxOk := s.rsr.rxOk, rxMbit := s.rsr.rxMbit }
  /-- NCR, FIFO and the tally counters never change from 0 (R33, R34). -/
  countersZero : s.numColl = 0#8 ∧ s.fifo = 0#8 ∧ s.tallycnt0 = 0#8 ∧ s.tallycnt1 = 0#8 ∧ s.tallycnt2 = 0#8
  /-- The page-3 registers hold 0 for ever (R38). -/
  pageThreeZero : s.page3 = {}
  /-- The PROM window shows the station address (R39). -/
  prom : s.macaddr = promOf s.physaddr

/-! ### Accesses -/

/-- A read row: every descriptor that matches the row decodes to `i`, and `i` returns `value` and changes nothing. -/
def readsAs (pattern mask : Byte) (i : Instr) (value : State → Byte) : Prop :=
  (∀ k v : Byte, k &&& mask = pattern → decodeAccess k v = some i) ∧
  ∀ s : State, exec i s = .next { s with readData := some (value s) }

/-- A write row: every descriptor that matches the row decodes, with the data byte `v`, to `i v`, and `i v` has exactly the effect given. -/
def writesAs (pattern mask : Byte) (i : Byte → Instr) (effect : Byte → State → State) : Prop :=
  (∀ k v : Byte, k &&& mask = pattern → decodeAccess k v = some (i v)) ∧
  ∀ (v : Byte) (s : State), exec (i v) s = .next (effect v s)

/-- Of all accesses, only the writers change `f`. -/
def changedOnlyBy {α : Type} (f : State → α) (writers : Instr → Bool) : Prop :=
  ∀ (i : Instr) (s t : State), exec i s = .next t → writers i = false → f t = f s

/-- Neither a frame delivery nor a transmit completion changes `f`. -/
def keptByEngines {α : Type} (f : State → α) : Prop :=
  ∀ s : State, (∀ bytes : List Byte, f (receive bytes s) = f s) ∧ f (txComplete s) = f s

/-- The data-port reads. -/
def dataReads : List Instr :=
  [.rdData10, .rdData11, .rdData12, .rdData13, .rdData14, .rdData15, .rdData16, .rdData17, .rdData18, .rdData19,
    .rdData1a, .rdData1b, .rdData1c, .rdData1d, .rdData1e]

/-- The data-port writes of a byte. -/
def dataWrites (v : Byte) : List Instr :=
  [.wrData10 v, .wrData11 v, .wrData12 v, .wrData13 v, .wrData14 v, .wrData15 v, .wrData16 v, .wrData17 v,
    .wrData18 v, .wrData19 v, .wrData1a v, .wrData1b v, .wrData1c v, .wrData1d v, .wrData1e v]

/-- Is the access one of the data port? -/
def isDataPort (i : Instr) : Bool := (0x10#5).ule (descriptorOffset i.pattern) && (descriptorOffset i.pattern).ule 0x1E#5

/-! ### The remote DMA in the words of the spec -/

/-- The step of a data-port access (R201): 2 in word mode below 32, else 1. -/
def dmaStep (s : State) : Nat := if s.dcr.wdsize = true ∧ s.remoteDma.toNat < 32 then 2 else 1

/-- The address after a data-port access (R204). -/
def dmaNextAddress (s : State) : Nat :=
  let a := (s.remoteDma.toNat + dmaStep s) % 65536
  if a = s.pageStop.toNat * 256 then s.pageStart.toNat * 256 else a

/-- The count after a data-port access (R205); natural subtraction stops at 0. -/
def dmaNextCount (s : State) : Nat := s.remoteBytes.toNat - dmaStep s

/-- The state after a data-port access that moved no byte (R204, R205). -/
def dmaAdvanced (s : State) : State :=
  { s with
    remoteDma := BitVec.ofNat 16 (dmaNextAddress s)
    remoteBytes := BitVec.ofNat 16 (dmaNextCount s)
    isr := { s.isr with rdmaDone := s.isr.rdmaDone || decide (dmaNextCount s = 0) }
    asserts := s.asserts ++ (if s.imr.rdmaInte = true ∧ dmaNextCount s = 0 then [s.irqLine] else [])
    irqLevel := s.irqLevel || (s.imr.rdmaInte && decide (dmaNextCount s = 0)) }

/-- A data-port access: a read, or a write of a byte. -/
def dataAccess (a : Option Byte) : Instr :=
  match a with
  | none => .rdData10
  | some v => .wrData10 v

/-- Several data-port accesses, one after the other, with no other access between them. -/
def transfer (accesses : List (Option Byte)) (s : State) : Host.Outcome State Fault Refusal :=
  match accesses with
  | [] => .next s
  | a :: rest =>
    match exec (dataAccess a) s with
    | .next t => transfer rest t
    | .fault r => .fault r
    | .refused r => .refused r

/-- The lengths `len_1 .. len_n` of the accesses of a transfer (R201, R211). -/
def transferLengths (accesses : List (Option Byte)) (s : State) : List Nat :=
  match accesses with
  | [] => []
  | a :: rest =>
    match exec (dataAccess a) s with
    | .next t => dmaStep s :: transferLengths rest t
    | .fault _ => []
    | .refused _ => []

/-- Every write of the transfer finds a count that is not 0 (R203, R211). -/
def transferCounts (accesses : List (Option Byte)) (s : State) : Prop :=
  match accesses with
  | [] => True
  | a :: rest =>
    (a.isSome = true → s.remoteBytes ≠ 0#16) ∧
    match exec (dataAccess a) s with
    | .next t => transferCounts rest t
    | .fault _ => True
    | .refused _ => True

/-- The bytes that `n` data-port reads return. -/
def bytesRead (n : Nat) (s : State) : List Byte :=
  match n with
  | 0 => []
  | n + 1 =>
    match exec .rdData10 s with
    | .next t => t.readData.toList ++ bytesRead n t
    | .fault _ => []
    | .refused _ => []

/-! ### The transmit region -/

/-- `TxRegion()` in the words of R255. -/
def transmitRegion (s : State) : List Byte :=
  (List.range s.txBytes.toNat).map fun i => chipRead8 s ((s.txPageStart.toNat * 256 + i : Nat) : Int)

/-! ### The multicast hash by the standard CRC -/

/-- One bit of the reflected CRC-32. -/
def reflectedCrcBit (crc : BitVec 32) : BitVec 32 :=
  if crc.getLsbD 0 then (crc >>> 1) ^^^ 0xEDB88320#32 else crc >>> 1

/-- One byte of the reflected CRC-32. -/
def reflectedCrcByte (crc : BitVec 32) (b : Byte) : BitVec 32 :=
  (List.range 8).foldl (fun c _ => reflectedCrcBit c) (crc ^^^ b.setWidth 32)

/-- The standard reflected CRC-32 of six bytes without its final inversion (R230). -/
def reflectedCrc (dst : Mac) : BitVec 32 := dst.toList.foldl reflectedCrcByte 0xFFFFFFFF#32

/-! ### The ring as the guest configures and reads it -/

/-- The guest's ring obligations (R297). -/
def RingConfigured (s : State) : Prop :=
  s.pageStart.toNat < s.pageStop.toNat ∧
  (s.pageStart.toNat ≤ s.currPage.toNat ∧ s.currPage.toNat < s.pageStop.toNat) ∧
  (s.pageStart.toNat ≤ s.boundPtr.toNat ∧ s.boundPtr.toNat < s.pageStop.toNat) ∧
  s.cfg.memStart ≤ s.pageStart.toNat * 256 ∧ s.pageStop.toNat * 256 ≤ s.cfg.memEnd

/-- The byte at ring position `i` of a frame whose header starts at `page`, with the split of R235. -/
def frameByte (s : State) (page : Byte) (i : Nat) : Byte := chipRead8 s (ringAddr (s.setCurrPage page) i)

/-- The length of the frame at `page` by its header: the length field less the CRC slot (R234). -/
def frameLength (s : State) (page : Byte) : Nat :=
  (frameByte s page 2).toNat + 256 * (frameByte s page 3).toNat - 4

/-- The frame at `page`: the bytes after its header. -/
def frameAt (s : State) (page : Byte) : List Byte :=
  (List.range (frameLength s page)).map fun i => frameByte s page (4 + i)

/-- `n` frames from `page` on, following the next-page bytes (R241). -/
def framesFrom (s : State) (page : Byte) (n : Nat) : List (List Byte) :=
  match n with
  | 0 => []
  | n + 1 => frameAt s page :: framesFrom s (frameByte s page 1) n

/-- Deliver frames one after the other, with nothing between them. -/
def deliver (frames : List (List Byte)) (s : State) : State := frames.foldl (fun s f => receive f s) s

/-- Each of the frames is accepted as it arrives. -/
def allAccepted (frames : List (List Byte)) (s : State) : Prop :=
  match frames with
  | [] => True
  | f :: rest => acceptsFrame s f = true ∧ allAccepted rest (receive f s)

/-! ### Fields with no effect (R46) -/

/-- The state with every field of R46 wiped. `CR.rdma_cmd` is wiped whole: a CR write consults only the value it has just stored (R112). -/
def withoutUnused (s : State) : State :=
  { s with
    cr := { s.cr with rdmaCmd := 0 }
    imr := { s.imr with rxerrInte := false, txerrInte := false, overwInte := false, coflInte := false }
    dcr := { wdsize := s.dcr.wdsize }
    tcr := { loopCntl := s.tcr.loopCntl }
    rcr := { s.rcr with errorsOk := false, monitor := false }
    localDma := 0, rempktPtr := 0, localpktPtr := 0, addressCnt := 0 }

/-- Two outcomes that differ at most in fields with no effect. -/
def sameButUnused (a b : Host.Outcome State Fault Refusal) : Prop :=
  match a, b with
  | .next s, .next t => withoutUnused s = withoutUnused t
  | .fault r, .fault q => r = q
  | .refused r, .refused q => r = q
  | _, _ => False

end Sys2Proof.Machine
end

