-- ==== Sys2Proof/Certificates/Slice0/Obligations.lean ====
section
/-! DEFINITION. The statements about the block, for the provers. Each formalises or rests on the numbered rules that OBLIGATIONS.json cites. -/

open Sys2Proof Sys2Proof.Machine

/-- The descriptor K holds direction, page and offset, and fixes the length of the access (R91, R103, R106).
That the data byte stands after the descriptor is the model's layout (log entry 14). -/
def Obligations.DescriptorHoldsDirectionPageOffset : Prop :=
  (∀ (d : Bool) (pp : BitVec 2) (off : BitVec 5),
    (descriptor d pp off).getLsbD 7 = d ∧ (descriptor d pp off).extractLsb' 5 2 = pp ∧
      (descriptor d pp off).extractLsb' 0 5 = off) ∧
  (∀ (k v : Byte) (i : Instr), decodeAccess k v = some i → k &&& i.mask = i.pattern) ∧
  (∀ (k : Byte) (rest : List Byte), k.getLsbD 7 = false →
    ∃ i, i.dataByte = none ∧ decode (k :: rest) = .ok (i, rest)) ∧
  (∀ (k v : Byte) (rest : List Byte), k.getLsbD 7 = true →
    ∃ i, i.dataByte = some v ∧ decode (k :: v :: rest) = .ok (i, rest))

/-- A word of every family, written out from the spec, decodes to the access it stands for (30_encoding.md section 2 (R96 to R101), R92, R94, R95). -/
def Obligations.SpecWordsDecodeToTheirRows : Prop :=
  decodeAccess 0x00 0xA5 = some .rdCr ∧
  decodeAccess 0x60 0xA5 = some .rdCr ∧
  decodeAccess 0x80 0x22 = some (.wrCr 0x22) ∧
  decodeAccess 0x07 0 = some .rdP0Isr ∧
  decodeAccess 0x8F 0x41 = some (.wrP0Imr 0x41) ∧
  decodeAccess 0x21 0 = some .rdP1Par0 ∧
  decodeAccess 0xAB 0x80 = some (.wrP1Mar3 0x80) ∧
  decodeAccess 0x46 0 = some .rdP2Acu ∧
  decodeAccess 0xC4 0x55 = some (.wrP2Rsv4 0x55) ∧
  decodeAccess 0x6F 0 = some .rdP3F ∧
  decodeAccess 0xE1 0xC0 = some (.wrP31 0xC0) ∧
  decodeAccess 0x3E 0 = some .rdData1e ∧
  decodeAccess 0x90 0x11 = some (.wrData10 0x11) ∧
  decodeAccess 0x7F 0 = some .rdReset ∧
  decodeAccess 0x9F 0 = some (.wrReset 0)

/-- Every descriptor decodes, to exactly one row, and reserved bits of a written value are dropped (R108). -/
def Obligations.EveryDescriptorDecodesToExactlyOneRow : Prop :=
  (∀ k v : Byte, ∃ i : Instr, decodeAccess k v = some i ∧
    ∀ j : Instr, (k &&& j.mask = j.pattern ∧ (j.dataByte = none ∨ j.dataByte = some v)) ↔ j = i) ∧
  (∀ v : Byte, (Imr.ofByte v).toByte = v &&& 0x7F#8 ∧ (Dcr.ofByte v).toByte = v &&& 0x7F#8 ∧
    (Tcr.ofByte v).toByte = v &&& 0x1F#8 ∧ (Rcr.ofByte v).toByte = v &&& 0x3F#8)

/-- Decoding the encoding of any access gives the access back (R91, R103, R108, 30_encoding.md sections 1 to 4). -/
def Obligations.DecodeReadsBackEveryEncoding : Prop :=
  ∀ (i : Instr) (rest : List Byte), i.wf = true → decode (encode i ++ rest) = .ok (i, rest)

/-- What is decoded is the row and the data byte, nothing is lost but ignored page bits, and only cut-short bytes are rejected (R91, R92, R108).
The byte layout, descriptor then data byte, is the model's (log entry 14). -/
def Obligations.DecodeDropsOnlyIgnoredPageBits : Prop :=
  (∀ (bytes rest : List Byte) (i : Instr), decode bytes = .ok (i, rest) →
    ∃ k : Byte, k &&& i.mask = i.pattern ∧ bytes = k :: (i.dataByte.toList ++ rest)) ∧
  (∀ bytes : List Byte, decode bytes = .error .noDescriptor ↔ bytes = []) ∧
  (∀ bytes : List Byte, decode bytes = .error .noDataByte ↔ ∃ k : Byte, k.getLsbD 7 = true ∧ bytes = [k]) ∧
  (∀ bytes : List Byte, decode bytes ≠ .error .unassigned)

/-- Offset 0, offsets 0x10 to 0x1E and offset 0x1F are CR, the data port and the reset port in every page (R92, R94, R95). -/
def Obligations.CommandDataAndResetPortsIgnoreThePage : Prop :=
  (∀ (pp : BitVec 2) (v : Byte), decodeAccess (descriptor false pp 0) v = some .rdCr ∧
    decodeAccess (descriptor true pp 0) v = some (.wrCr v)) ∧
  (∀ (pp : BitVec 2) (off : BitVec 5) (v : Byte), 0x10 ≤ off.toNat → off.toNat ≤ 0x1E →
    (∃ i ∈ dataReads, decodeAccess (descriptor false pp off) v = some i ∧ ∀ s : State, exec i s = exec .rdData10 s) ∧
    (∃ i ∈ dataWrites v, decodeAccess (descriptor true pp off) v = some i ∧
      ∀ s : State, exec i s = exec (.wrData10 v) s)) ∧
  (∀ (pp : BitVec 2) (v : Byte), decodeAccess (descriptor false pp 0x1F) v = some .rdReset ∧
    decodeAccess (descriptor true pp 0x1F) v = some (.wrReset v) ∧
    ∀ s : State, exec (.wrReset v) s = .next s ∧
      ∃ t, exec .rdReset s = .next t ∧ { t with readData := s.readData, draws := s.draws } = resetBlock s)

/-- A step runs the access its bus cycle decodes to, and a port outside the block changes nothing (R6, R90, R91, R93).
The queue and the returned byte are the model's (log entries 1, 3 and 4). -/
def Obligations.StepRunsTheDecodedAccess : Prop :=
  ∀ (s : State) (port : Nat) (v : Byte) (rest : List Event),
    let u : State := { s with inputs := rest, readData := none }
    let off := BitVec.ofNat 5 (port - s.cfg.ioBase)
    (s.cfg.ioBase ≤ port → port ≤ s.cfg.ioBase + 0x1F →
      (s.inputs = .read port :: rest →
        ∃ i, decode [descriptor false s.cr.pgsel off] = .ok (i, []) ∧ i.wf = true ∧ step s = exec i u) ∧
      (s.inputs = .write port v :: rest →
        ∃ i, decode [descriptor true s.cr.pgsel off, v] = .ok (i, []) ∧ i.wf = true ∧ step s = exec i u)) ∧
    (port < s.cfg.ioBase ∨ s.cfg.ioBase + 0x1F < port →
      (s.inputs = .read port :: rest → step s = .next u) ∧ (s.inputs = .write port v :: rest → step s = .next u))

/-- A step performs a frame delivery, a transmit completion and an init, and an idle block does not move (R6, R220, R257, R291).
The queue, the idle step and what an init keeps are the model's (log entries 1, 2 and 13). -/
def Obligations.StepPerformsTheOtherAgents : Prop :=
  ∀ (s : State) (rest : List Event),
    let u : State := { s with inputs := rest, readData := none }
    (∀ bytes, s.inputs = .frame bytes :: rest → step s = .next (receive bytes u)) ∧
    (s.inputs = .txdone :: rest → s.txPending = true → step s = .next (txComplete u)) ∧
    (∀ mac irq, s.inputs = .init mac irq :: rest →
      step s = .next (resetBlock { u with irqLine := irq, physaddr := mac, mchash := #v[0, 0, 0, 0, 0, 0, 0, 0] })) ∧
    (s.inputs = [] → step s = .next s)

/-- The only fault is TxOverlap, at an external transmit start while one is pending, and it needs TX_DEFERRED (R258, R257, R108, R254).
The refusal of a txdone with nothing pending is the model's form of R257's 'no step' (log entry 12). -/
def Obligations.OnlyTransmitOverlapFaults : Prop :=
  (∀ (v : Byte) (s : State), v.getLsbD 2 = true → s.tcr.loopCntl = 0#2 → s.txPending = true →
    exec (.wrCr v) s = .fault .txOverlap) ∧
  (∀ (s : State) (r : Fault), step s = .fault r →
    r = .txOverlap ∧ s.txPending = true ∧ s.tcr.loopCntl = 0#2 ∧
    ∃ v rest, s.inputs = .write s.cfg.ioBase v :: rest ∧ v.getLsbD 2 = true) ∧
  (∀ (s : State) (r : Refusal), step s = .refused r →
    r = .noCompletionPending ∧ s.txPending = false ∧ ∃ rest, s.inputs = .txdone :: rest) ∧
  (∀ (s : State) (r : Fault), s.Inv → s.cfg.txDeferred = false → step s ≠ .fault r)

/-- RD_CR returns pgsel, rdma_cmd, tx_packet, start and stop in their places (R111). -/
def Obligations.CommandReadAssemblesItsFields : Prop :=
  readsAs 0x00 0x9F .rdCr (fun s =>
    (s.cr.pgsel.setWidth 8 <<< 6) ||| (s.cr.rdmaCmd.setWidth 8 <<< 3) |||
      ((BitVec.ofBool s.cr.txPacket).setWidth 8 <<< 2) ||| ((BitVec.ofBool s.cr.start).setWidth 8 <<< 1) |||
      (BitVec.ofBool s.cr.stop).setWidth 8) ∧
  (∀ s : State, s.Inv → s.cr.rdmaCmd ≠ 0#3 ∧ s.cr.txPacket = s.txPending ∧
    (s.cfg.txDeferred = false → s.cr.txPacket = false)) ∧
  exec .rdCr State.reset = .next { State.reset with readData := some 0x21 }

/-- WR_CR coerces rdma_cmd, stores its fields, then runs send-packet, transmit and probe in that order (R112). -/
def Obligations.CommandWriteRunsItsProcedure : Prop :=
  (∀ k v : Byte, k &&& 0x9F = 0x80 → decodeAccess k v = some (.wrCr v)) ∧
  ∀ (v : Byte) (s : State),
    let c := if v.extractLsb' 3 3 = 0#3 then v ||| 0x20#8 else v
    let stored : State :=
      { s with
        isr := { s.isr with reset := s.isr.reset || v.getLsbD 0 }
        cr := { pgsel := c.extractLsb' 6 2, rdmaCmd := c.extractLsb' 3 3, txPacket := s.cr.txPacket,
                start := v.getLsbD 1, stop := v.getLsbD 0 } }
    let ready := sendPacketCommand stored
    exec (.wrCr v) s =
      match (if v.getLsbD 2 then transmitStart ready else .next ready) with
      | .next t => .next (irqProbe t)
      | .fault r => .fault r
      | .refused r => .refused r

/-- WR_CR completes unless it overlaps a pending transmission, with its fields stored and every other register kept (R112, R250, R251, R252, R253, R254). -/
def Obligations.CommandWriteCompletesWithItsFields : Prop :=
  ∀ (v : Byte) (s : State), v.getLsbD 2 = false ∨ s.tcr.loopCntl ≠ 0#2 ∨ s.txPending = false →
    ∃ t, exec (.wrCr v) s = .next t ∧
      (t.cr.stop = v.getLsbD 0 ∧ t.cr.start = v.getLsbD 1 ∧ t.cr.pgsel = v.extractLsb' 6 2 ∧
        t.cr.rdmaCmd = (if v.extractLsb' 3 3 = 0#3 then 4#3 else v.extractLsb' 3 3) ∧
        t.isr.reset = (s.isr.reset || v.getLsbD 0)) ∧
      (t.cfg = s.cfg ∧ t.irqLine = s.irqLine ∧ t.imr = s.imr ∧ t.dcr = s.dcr ∧ t.tcr = s.tcr ∧ t.rcr = s.rcr ∧
        t.pageStart = s.pageStart ∧ t.pageStop = s.pageStop ∧ t.boundPtr = s.boundPtr ∧
        t.txPageStart = s.txPageStart ∧ t.txBytes = s.txBytes ∧ t.localDma = s.localDma ∧ t.numColl = s.numColl ∧
        t.fifo = s.fifo ∧ t.tallycnt0 = s.tallycnt0 ∧ t.tallycnt1 = s.tallycnt1 ∧ t.tallycnt2 = s.tallycnt2 ∧
        t.physaddr = s.physaddr ∧ t.mchash = s.mchash ∧ t.rempktPtr = s.rempktPtr ∧
        t.localpktPtr = s.localpktPtr ∧ t.addressCnt = s.addressCnt ∧ t.page3 = s.page3 ∧ t.macaddr = s.macaddr ∧
        t.inputs = s.inputs ∧ t.readData = s.readData) ∧
      (t.isr.rxErr = s.isr.rxErr ∧ t.isr.txErr = s.isr.txErr ∧ t.isr.overwrite = s.isr.overwrite ∧
        t.isr.cntOflow = s.isr.cntOflow ∧ t.tsr = { s.tsr with txOk := t.tsr.txOk } ∧
        t.rsr = { s.rsr with rxOk := t.rsr.rxOk, rxMbit := t.rsr.rxMbit }) ∧
      (v.getLsbD 2 = false ∨ s.tcr.loopCntl ≠ 1#2 → (∀ a : Int, chipRead8 t a = chipRead8 s a) ∧
        t.currPage = s.currPage ∧ t.rsr = s.rsr ∧ t.isr.pktRx = s.isr.pktRx) ∧
      (v.extractLsb' 3 3 ≠ 3#3 → t.remoteStart = s.remoteStart ∧ t.remoteDma = s.remoteDma ∧
        t.remoteBytes = s.remoteBytes) ∧
      (Memory.wf s.mem → ∀ a : Int, (∀ n, n < (padded (transmitRegion s)).length + 8 → ringAddr s n ≠ a) →
        chipRead8 t a = chipRead8 s a)

/-- The IRQ probe sets rdma_done and asserts if enabled, at every CR write that leaves remote read, started, count 0 (R207). -/
def Obligations.ProbeRunsAtTheCommandWrite : Prop :=
  (∀ s : State, irqProbe s =
    if s.cr.rdmaCmd = 1#3 ∧ s.cr.start = true ∧ s.remoteBytes = 0#16 then
      { s with
        isr := { s.isr with rdmaDone := true }
        asserts := s.asserts ++ (if s.imr.rdmaInte then [s.irqLine] else [])
        irqLevel := s.irqLevel || s.imr.rdmaInte }
    else s) ∧
  (∀ (v : Byte) (s : State), v.getLsbD 2 = false → v.extractLsb' 3 3 = 1#3 → v.getLsbD 1 = true →
    s.remoteBytes = 0#16 →
    exec (.wrCr v) s = .next
      { s with
        cr := { pgsel := v.extractLsb' 6 2, rdmaCmd := 1, txPacket := s.cr.txPacket, start := true,
                stop := v.getLsbD 0 }
        isr := { s.isr with rdmaDone := true, reset := s.isr.reset || v.getLsbD 0 }
        asserts := s.asserts ++ (if s.imr.rdmaInte then [s.irqLine] else [])
        irqLevel := s.irqLevel || s.imr.rdmaInte }) ∧
  (∀ (v : Byte) (s t : State), exec (.wrCr v) s = .next t → v.extractLsb' 3 3 = 1#3 → v.getLsbD 1 = true →
    s.remoteBytes = 0#16 → t.isr.rdmaDone = true)

/-- A CR write storing rdma_cmd = 3 points the remote DMA at the boundary packet under DS8390, and does nothing more under None (R208). -/
def Obligations.SendPacketLoadsTheBoundaryPacket : Prop :=
  ∀ (v : Byte) (s : State), v.getLsbD 2 = false → v.extractLsb' 3 3 = 3#3 →
    let a : Nat := s.boundPtr.toNat * 256
    let stored : State :=
      { s with
        cr := { pgsel := v.extractLsb' 6 2, rdmaCmd := 3, txPacket := s.cr.txPacket, start := v.getLsbD 1,
                stop := v.getLsbD 0 }
        isr := { s.isr with reset := s.isr.reset || v.getLsbD 0 } }
    (s.cfg.sendpktMode = .ds8390 →
      exec (.wrCr v) s = .next
        { stored with
          remoteStart := BitVec.ofNat 16 a
          remoteDma := BitVec.ofNat 16 a
          remoteBytes := BitVec.ofNat 16
            ((chipRead8 s ((a + 2 : Nat) : Int)).toNat + 256 * (chipRead8 s ((a + 3 : Nat) : Int)).toNat) }) ∧
    (s.cfg.sendpktMode = .none → exec (.wrCr v) s = .next stored)

/-- An external transmit hands the region over and completes at once, or at txdone when deferred; its overlap faults (R254, R255, R256, R257, R258).
The refusal of a txdone with nothing pending is the model's form of R257's 'no step' (log entry 12). -/
def Obligations.ExternalTransmitSendsAndCompletes : Prop :=
  (∀ (v : Byte) (s : State), v.getLsbD 2 = true → s.tcr.loopCntl = 0#2 →
    let probed : List Nat := if (v.extractLsb' 3 3 = 1#3 ∧ v.getLsbD 1 = true ∧ s.remoteBytes = 0#16 ∧ s.imr.rdmaInte = true) then [s.irqLine] else []
    (s.txPending = true → exec (.wrCr v) s = .fault .txOverlap) ∧
    (s.txPending = false → ∃ t, exec (.wrCr v) s = .next t ∧ t.sent = s.sent ++ [transmitRegion s] ∧
      t.mem = s.mem ∧ t.rsr = s.rsr ∧ t.isr.pktRx = s.isr.pktRx ∧ t.currPage = s.currPage ∧
      (s.cfg.txDeferred = false →
        t.tsr = { s.tsr with txOk := true } ∧ t.isr.pktTx = true ∧ t.cr.txPacket = false ∧ t.txPending = false ∧
        t.asserts = s.asserts ++ (if s.imr.txInte = true ∧ s.isr.pktTx = false then [s.irqLine] else []) ++ probed) ∧
      (s.cfg.txDeferred = true →
        t.tsr = s.tsr ∧ t.isr.pktTx = s.isr.pktTx ∧ t.cr.txPacket = true ∧ t.txPending = true ∧
        t.asserts = s.asserts ++ probed))) ∧
  (∀ (s : State) (rest : List Event), s.inputs = .txdone :: rest →
    (s.txPending = true → step s = .next
      { s with
        inputs := rest
        readData := none
        tsr := { s.tsr with txOk := true }
        asserts := s.asserts ++ (if s.imr.txInte = true ∧ s.isr.pktTx = false then [s.irqLine] else [])
        irqLevel := s.irqLevel || (s.imr.txInte && !s.isr.pktTx)
        isr := { s.isr with pktTx := true }
        cr := { s.cr with txPacket := false }
        txPending := false }) ∧
    (s.txPending = false → step s = .refused .noCompletionPending)) ∧
  (∀ s : State, ∃ t, exec .rdReset s = .next t ∧ t.txPending = false ∧ t.cr.txPacket = false ∧ t.sent = s.sent) ∧
  (∀ s : State, (transmitRegion s).length = s.txBytes.toNat)

/-- Loopback mode 1 passes the transmit region through the receive engine and sets pkt_tx; modes 2 and 3 do nothing (R252, R253). -/
def Obligations.LoopbackFeedsTheReceiveEngine : Prop :=
  (∀ (v : Byte) (s : State), v.getLsbD 2 = true → s.tcr.loopCntl = 1#2 →
    let stored : State :=
      { s with
        isr := { s.isr with reset := s.isr.reset || v.getLsbD 0 }
        cr := { s.cr with stop := v.getLsbD 0 } }
    let u := receive (transmitRegion s) stored
    ∃ t, exec (.wrCr v) s = .next t ∧ t.isr.pktTx = true ∧ t.isr.pktRx = u.isr.pktRx ∧ t.rsr = u.rsr ∧
      t.mem = u.mem ∧ t.currPage = u.currPage ∧ t.tsr = s.tsr ∧ t.cr.txPacket = s.cr.txPacket ∧
      t.txPending = s.txPending ∧ t.sent = s.sent ∧
      t.asserts = u.asserts ++ (if s.imr.txInte = true ∧ s.isr.pktTx = false then [s.irqLine] else []) ++
        (if (v.extractLsb' 3 3 = 1#3 ∧ v.getLsbD 1 = true ∧ s.remoteBytes = 0#16 ∧ s.imr.rdmaInte = true) then [s.irqLine] else [])) ∧
  (∀ (v : Byte) (s : State), s.tcr.loopCntl = 2#2 ∨ s.tcr.loopCntl = 3#2 →
    exec (.wrCr v) s = exec (.wrCr (v &&& 0xFB#8)) s)

/-- A transmit start runs when stopped, not started or with a zero count (R259). -/
def Obligations.StoppedOrEmptyTransmitStillRuns : Prop :=
  (∀ (v : Byte) (s : State), v.getLsbD 2 = true → s.tcr.loopCntl = 0#2 → s.txPending = false →
    ∃ t, exec (.wrCr v) s = .next t ∧ t.cr.stop = v.getLsbD 0 ∧ t.cr.start = v.getLsbD 1 ∧
      t.sent = s.sent ++ [transmitRegion s] ∧ (s.txBytes = 0#16 → t.sent = s.sent ++ [[]])) ∧
  (∀ (v : Byte) (s : State), v.getLsbD 2 = true → v.getLsbD 0 = true → s.tcr.loopCntl = 1#2 →
    ∃ t, exec (.wrCr v) s = .next t ∧ t.isr.pktTx = true ∧ t.isr.pktRx = s.isr.pktRx ∧ t.mem = s.mem ∧
      t.currPage = s.currPage ∧ t.rsr = s.rsr ∧ t.sent = s.sent) ∧
  (∀ (v : Byte) (s : State), v.getLsbD 2 = true → s.tcr.loopCntl = 1#2 → s.txBytes = 0#16 → s.rcr.runtsOk = false →
    ∃ t, exec (.wrCr v) s = .next t ∧ t.isr.pktTx = true ∧ t.mem = s.mem ∧ t.currPage = s.currPage)

/-- PSTART, PSTOP, BNRY, TPSR and CURR are written whole, read back where their maps say, and only CURR is moved by an engine (R115, R128, R130, R131, R149, R164, R173, R174, R176). -/
def Obligations.RingPointersReadAndWrite : Prop :=
  writesAs 0x81 0xFF .wrP0Pstart (fun v s => { s with pageStart := v }) ∧
  writesAs 0x82 0xFF .wrP0Pstop (fun v s => { s with pageStop := v }) ∧
  writesAs 0x83 0xFF .wrP0Bnry (fun v s => { s with boundPtr := v }) ∧
  writesAs 0x84 0xFF .wrP0Tpsr (fun v s => { s with txPageStart := v }) ∧
  writesAs 0xA7 0xFF .wrP1Curr (fun v s => { s with currPage := v }) ∧
  readsAs 0x03 0xFF .rdP0Bnry (fun s => s.boundPtr) ∧
  readsAs 0x27 0xFF .rdP1Curr (fun s => s.currPage) ∧
  readsAs 0x41 0xFF .rdP2Pstart (fun s => s.pageStart) ∧
  readsAs 0x42 0xFF .rdP2Pstop (fun s => s.pageStop) ∧
  readsAs 0x44 0xFF .rdP2Tpsr (fun s => s.txPageStart) ∧
  changedOnlyBy State.pageStart (fun i => i.pattern == 0x81#8 || i.pattern == 0x1F#8) ∧
  changedOnlyBy State.pageStop (fun i => i.pattern == 0x82#8 || i.pattern == 0x1F#8) ∧
  changedOnlyBy State.boundPtr (fun i => i.pattern == 0x83#8 || i.pattern == 0x1F#8) ∧
  changedOnlyBy State.txPageStart (fun i => i.pattern == 0x84#8 || i.pattern == 0x1F#8) ∧
  changedOnlyBy State.currPage (fun i => i.pattern == 0xA7#8 || i.pattern == 0x1F#8 || i.pattern == 0x80#8) ∧
  keptByEngines State.pageStart ∧
  keptByEngines State.pageStop ∧
  keptByEngines State.boundPtr ∧
  keptByEngines State.txPageStart ∧
  (∀ (s : State) (bytes : List Byte), s.pageStart = 0#8 → receive bytes s = s)

/-- TBCR0 and TBCR1 replace one half of tx_bytes each and keep the other (R132, R133). -/
def Obligations.TransmitCountIsWrittenByHalves : Prop :=
  writesAs 0x85 0xFF .wrP0Tbcr0 (fun v s => { s with txBytes := (s.txBytes &&& 0xFF00#16) ||| v.setWidth 16 }) ∧
  writesAs 0x86 0xFF .wrP0Tbcr1 (fun v s => { s with txBytes := (s.txBytes &&& 0x00FF#16) ||| (v.setWidth 16 <<< 8) }) ∧
  changedOnlyBy State.txBytes (fun i => i.pattern == 0x85#8 || i.pattern == 0x86#8 || i.pattern == 0x1F#8) ∧
  keptByEngines State.txBytes ∧
  (∀ (s t u : State) (lo hi : Byte), exec (.wrP0Tbcr0 lo) s = .next t → exec (.wrP0Tbcr1 hi) t = .next u → u.txBytes = hi ++ lo)

/-- Each RSAR half write reloads remote_dma from the whole of remote_start; CRDA reads it back (R120, R121, R135, R136). -/
def Obligations.RemoteStartLoadsTheRemoteAddress : Prop :=
  writesAs 0x88 0xFF .wrP0Rsar0 (fun v s =>
    { s with
      remoteStart := (s.remoteStart &&& 0xFF00#16) ||| v.setWidth 16
      remoteDma := (s.remoteStart &&& 0xFF00#16) ||| v.setWidth 16 }) ∧
  writesAs 0x89 0xFF .wrP0Rsar1 (fun v s =>
    { s with
      remoteStart := (s.remoteStart &&& 0x00FF#16) ||| (v.setWidth 16 <<< 8)
      remoteDma := (s.remoteStart &&& 0x00FF#16) ||| (v.setWidth 16 <<< 8) }) ∧
  readsAs 0x08 0xFF .rdP0Crda0 (fun s => s.remoteDma.extractLsb' 0 8) ∧
  readsAs 0x09 0xFF .rdP0Crda1 (fun s => s.remoteDma.extractLsb' 8 8) ∧
  (∀ (s t u : State) (lo hi : Byte),
    (exec (.wrP0Rsar0 lo) s = .next t ∧ exec (.wrP0Rsar1 hi) t = .next u) ∨
      (exec (.wrP0Rsar1 hi) s = .next t ∧ exec (.wrP0Rsar0 lo) t = .next u) →
    u.remoteDma = hi ++ lo ∧ u.remoteStart = hi ++ lo ∧ u.remoteBytes = s.remoteBytes)

/-- RBCR0 and RBCR1 replace one half of remote_bytes each and touch no flag, and a count of 0 makes data-port writes no-ops (R137, R138). -/
def Obligations.RemoteCountIsWrittenByHalves : Prop :=
  writesAs 0x8A 0xFF .wrP0Rbcr0 (fun v s => { s with remoteBytes := (s.remoteBytes &&& 0xFF00#16) ||| v.setWidth 16 }) ∧
  writesAs 0x8B 0xFF .wrP0Rbcr1 (fun v s => { s with remoteBytes := (s.remoteBytes &&& 0x00FF#16) ||| (v.setWidth 16 <<< 8) }) ∧
  (∀ (s : State) (v : Byte), s.remoteBytes = 0#16 → ∀ i ∈ dataWrites v, exec i s = .next s) ∧
  (∀ (s t u : State) (lo hi : Byte), exec (.wrP0Rbcr0 lo) s = .next t → exec (.wrP0Rbcr1 hi) t = .next u → u.remoteBytes = hi ++ lo)

/-- RCR, TCR, DCR and IMR keep their defined bits and read back through page 2 with reserved bits 0 (R139, R140, R141, R142, R181, R182, R183, R184, R194). -/
def Obligations.ConfigurationRegistersDropReservedBits : Prop :=
  writesAs 0x8C 0xFF .wrP0Rcr (fun v s => { s with rcr := Rcr.ofByte v }) ∧
  writesAs 0x8D 0xFF .wrP0Tcr (fun v s => { s with tcr := Tcr.ofByte v }) ∧
  writesAs 0x8E 0xFF .wrP0Dcr (fun v s => { s with dcr := Dcr.ofByte v }) ∧
  writesAs 0x8F 0xFF .wrP0Imr (fun v s => { s with imr := Imr.ofByte v }) ∧
  readsAs 0x4C 0xFF .rdP2Rcr (fun s => s.rcr.toByte) ∧
  readsAs 0x4D 0xFF .rdP2Tcr (fun s => s.tcr.toByte) ∧
  readsAs 0x4E 0xFF .rdP2Dcr (fun s => s.dcr.toByte) ∧
  readsAs 0x4F 0xFF .rdP2Imr (fun s => s.imr.toByte) ∧
  (∀ (v : Byte) (s t : State), exec (.wrP0Rcr v) s = .next t →
    exec .rdP2Rcr t = .next { t with readData := some (v &&& 0x3F) }) ∧
  (∀ (v : Byte) (s t : State), exec (.wrP0Tcr v) s = .next t →
    exec .rdP2Tcr t = .next { t with readData := some (v &&& 0x1F) }) ∧
  (∀ (v : Byte) (s t : State), exec (.wrP0Dcr v) s = .next t →
    exec .rdP2Dcr t = .next { t with readData := some (v &&& 0x7F) }) ∧
  (∀ (v : Byte) (s t : State), exec (.wrP0Imr v) s = .next t →
    exec .rdP2Imr t = .next { t with readData := some (v &&& 0x7F) }) ∧
  changedOnlyBy State.rcr (fun i => i.pattern == 0x8C#8 || i.pattern == 0x1F#8) ∧
  changedOnlyBy State.tcr (fun i => i.pattern == 0x8D#8 || i.pattern == 0x1F#8) ∧
  changedOnlyBy State.dcr (fun i => i.pattern == 0x8E#8 || i.pattern == 0x1F#8) ∧
  changedOnlyBy State.imr (fun i => i.pattern == 0x8F#8 || i.pattern == 0x1F#8) ∧
  exec .rdP2Dcr State.reset = .next { State.reset with readData := some 0x04 }

/-- WR_P0_ISR clears the bits written 1, lowers irq_level when the masked status becomes 0, and never asserts (R119, R134, R275). -/
def Obligations.IsrWriteClearsAndLowers : Prop :=
  readsAs 0x07 0xFF .rdP0Isr (fun s => s.isr.toByte) ∧
  (∀ k v : Byte, k &&& 0xFF = 0x87 → decodeAccess k v = some (.wrP0Isr v)) ∧
  (∀ (v : Byte) (s : State), ∃ t, exec (.wrP0Isr v) s = .next t ∧
    t.isr.toByte = s.isr.toByte &&& ~~~v ∧
    t.irqLevel = (if s.isr.toByte &&& ~~~v &&& s.imr.toByte &&& 0x7F#8 = 0#8 then false else s.irqLevel) ∧
    t = { s with isr := t.isr, irqLevel := t.irqLevel }) ∧
  exec .rdP0Isr State.reset = .next { State.reset with readData := some 0x80 }

/-- TSR, RSR, NCR, FIFO and the tally counters read without side effect; what never changes reads 0 (R116, R117, R118, R124, R125, R126, R127). -/
def Obligations.StatusAndCounterReads : Prop :=
  readsAs 0x04 0xFF .rdP0Tsr (fun s => s.tsr.toByte) ∧
  readsAs 0x05 0xFF .rdP0Ncr (fun s => s.numColl) ∧
  readsAs 0x06 0xFF .rdP0Fifo (fun s => s.fifo) ∧
  readsAs 0x0C 0xFF .rdP0Rsr (fun s => s.rsr.toByte) ∧
  readsAs 0x0D 0xFF .rdP0Cntr0 (fun s => s.tallycnt0) ∧
  readsAs 0x0E 0xFF .rdP0Cntr1 (fun s => s.tallycnt1) ∧
  readsAs 0x0F 0xFF .rdP0Cntr2 (fun s => s.tallycnt2) ∧
  (∀ s : State, s.Inv → s.numColl = 0#8 ∧ s.fifo = 0#8 ∧ s.tallycnt0 = 0#8 ∧ s.tallycnt1 = 0#8 ∧ s.tallycnt2 = 0#8 ∧
    s.tsr.toByte &&& 0xFE#8 = 0#8 ∧ s.rsr.toByte &&& 0xDE#8 = 0#8) ∧
  (∀ (i : Instr) (s t : State), exec i s = .next t → i ≠ .rdReset →
    (s.tsr.txOk = true → t.tsr.txOk = true) ∧ (s.rsr.rxOk = true → t.rsr.rxOk = true) ∧
    (s.rsr.rxMbit = true → t.rsr.rxMbit = true)) ∧
  (∀ (s : State) (bytes : List Byte), (receive bytes s).tsr = s.tsr ∧ (txComplete s).rsr = s.rsr ∧
    (s.rsr.rxOk = true → (receive bytes s).rsr.rxOk = true) ∧
    (s.rsr.rxMbit = true → (receive bytes s).rsr.rxMbit = true) ∧ (txComplete s).tsr.txOk = true)

/-- PAR0 to PAR5 read the station address, and no access changes it (R143, R144, R145, R146, R147, R148, R158, R159, R160, R161, R162, R163). -/
def Obligations.StationAddressIsReadOnly : Prop :=
  readsAs 0x21 0xFF .rdP1Par0 (fun s => s.physaddr[0]) ∧
  readsAs 0x22 0xFF .rdP1Par1 (fun s => s.physaddr[1]) ∧
  readsAs 0x23 0xFF .rdP1Par2 (fun s => s.physaddr[2]) ∧
  readsAs 0x24 0xFF .rdP1Par3 (fun s => s.physaddr[3]) ∧
  readsAs 0x25 0xFF .rdP1Par4 (fun s => s.physaddr[4]) ∧
  readsAs 0x26 0xFF .rdP1Par5 (fun s => s.physaddr[5]) ∧
  writesAs 0xA1 0xFF .wrP1Par0 (fun _ s => s) ∧
  writesAs 0xA2 0xFF .wrP1Par1 (fun _ s => s) ∧
  writesAs 0xA3 0xFF .wrP1Par2 (fun _ s => s) ∧
  writesAs 0xA4 0xFF .wrP1Par3 (fun _ s => s) ∧
  writesAs 0xA5 0xFF .wrP1Par4 (fun _ s => s) ∧
  writesAs 0xA6 0xFF .wrP1Par5 (fun _ s => s) ∧
  changedOnlyBy State.physaddr (fun _ => false) ∧
  keptByEngines State.physaddr

/-- MAR0 to MAR7 read the multicast table, which survives every reset (R150, R151, R152, R153, R154, R155, R156, R157). -/
def Obligations.MulticastTableReads : Prop :=
  readsAs 0x28 0xFF .rdP1Mar0 (fun s => s.mchash[0]) ∧
  readsAs 0x29 0xFF .rdP1Mar1 (fun s => s.mchash[1]) ∧
  readsAs 0x2A 0xFF .rdP1Mar2 (fun s => s.mchash[2]) ∧
  readsAs 0x2B 0xFF .rdP1Mar3 (fun s => s.mchash[3]) ∧
  readsAs 0x2C 0xFF .rdP1Mar4 (fun s => s.mchash[4]) ∧
  readsAs 0x2D 0xFF .rdP1Mar5 (fun s => s.mchash[5]) ∧
  readsAs 0x2E 0xFF .rdP1Mar6 (fun s => s.mchash[6]) ∧
  readsAs 0x2F 0xFF .rdP1Mar7 (fun s => s.mchash[7]) ∧
  (∀ s t : State, exec .rdReset s = .next t → t.mchash = s.mchash) ∧
  (∀ (s : State) (mac : Mac) (irq : Nat), (initBlock mac irq s).mchash = #v[0, 0, 0, 0, 0, 0, 0, 0]) ∧
  changedOnlyBy State.mchash (fun i => (0xA8#8).ule i.pattern && i.pattern.ule 0xAF#8) ∧
  keptByEngines State.mchash

/-- Each MAR write replaces one byte of the multicast table, and bit j of byte k is hash index 8k + j (R165, R166, R167, R168, R169, R170, R171, R172). -/
def Obligations.MulticastTableWrites : Prop :=
  writesAs 0xA8 0xFF .wrP1Mar0 (fun v s => { s with mchash := s.mchash.set 0 v }) ∧
  writesAs 0xA9 0xFF .wrP1Mar1 (fun v s => { s with mchash := s.mchash.set 1 v }) ∧
  writesAs 0xAA 0xFF .wrP1Mar2 (fun v s => { s with mchash := s.mchash.set 2 v }) ∧
  writesAs 0xAB 0xFF .wrP1Mar3 (fun v s => { s with mchash := s.mchash.set 3 v }) ∧
  writesAs 0xAC 0xFF .wrP1Mar4 (fun v s => { s with mchash := s.mchash.set 4 v }) ∧
  writesAs 0xAD 0xFF .wrP1Mar5 (fun v s => { s with mchash := s.mchash.set 5 v }) ∧
  writesAs 0xAE 0xFF .wrP1Mar6 (fun v s => { s with mchash := s.mchash.set 6 v }) ∧
  writesAs 0xAF 0xFF .wrP1Mar7 (fun v s => { s with mchash := s.mchash.set 7 v }) ∧
  (∀ (table : Vector Byte 8) (k : Fin 8) (v : Byte) (i : BitVec 6),
    hashBit (table.set k.val v) i = if i.toNat / 8 = k.val then v.getLsbD (i.toNat % 8) else hashBit table i)

/-- CLDA is written by halves on page 2 and read on page 0, and nothing else changes it (R113, R114, R185, R186). -/
def Obligations.LocalDmaIsHeldOnly : Prop :=
  readsAs 0x01 0xFF .rdP0Clda0 (fun s => s.localDma.extractLsb' 0 8) ∧
  readsAs 0x02 0xFF .rdP0Clda1 (fun s => s.localDma.extractLsb' 8 8) ∧
  writesAs 0xC1 0xFF .wrP2Clda0 (fun v s => { s with localDma := (s.localDma &&& 0xFF00#16) ||| v.setWidth 16 }) ∧
  writesAs 0xC2 0xFF .wrP2Clda1 (fun v s => { s with localDma := (s.localDma &&& 0x00FF#16) ||| (v.setWidth 16 <<< 8) }) ∧
  changedOnlyBy State.localDma (fun i => i.pattern == 0xC1#8 || i.pattern == 0xC2#8 || i.pattern == 0x1F#8) ∧
  keptByEngines State.localDma ∧
  (∀ s t : State, exec .rdReset s = .next t → t.localDma = 0#16) ∧
  (∀ (s t u : State) (lo hi : Byte), exec (.wrP2Clda0 lo) s = .next t → exec (.wrP2Clda1 hi) t = .next u →
    exec .rdP0Clda0 u = .next { u with readData := some lo } ∧ exec .rdP0Clda1 u = .next { u with readData := some hi })

/-- RNPP, LNPP and the address counter are written and read back on page 2, high byte first for the counter, and nothing else changes them (R175, R177, R178, R179, R187, R189, R190, R191). -/
def Obligations.PageTwoPointersAreHeldOnly : Prop :=
  readsAs 0x43 0xFF .rdP2Rnpp (fun s => s.rempktPtr) ∧
  readsAs 0x45 0xFF .rdP2Lnpp (fun s => s.localpktPtr) ∧
  readsAs 0x46 0xFF .rdP2Acu (fun s => s.addressCnt.extractLsb' 8 8) ∧
  readsAs 0x47 0xFF .rdP2Acl (fun s => s.addressCnt.extractLsb' 0 8) ∧
  writesAs 0xC3 0xFF .wrP2Rnpp (fun v s => { s with rempktPtr := v }) ∧
  writesAs 0xC5 0xFF .wrP2Lnpp (fun v s => { s with localpktPtr := v }) ∧
  writesAs 0xC6 0xFF .wrP2Acu (fun v s => { s with addressCnt := (s.addressCnt &&& 0x00FF#16) ||| (v.setWidth 16 <<< 8) }) ∧
  writesAs 0xC7 0xFF .wrP2Acl (fun v s => { s with addressCnt := (s.addressCnt &&& 0xFF00#16) ||| v.setWidth 16 }) ∧
  changedOnlyBy State.rempktPtr (fun i => i.pattern == 0xC3#8 || i.pattern == 0x1F#8) ∧
  changedOnlyBy State.localpktPtr (fun i => i.pattern == 0xC5#8 || i.pattern == 0x1F#8) ∧
  changedOnlyBy State.addressCnt (fun i => i.pattern == 0xC6#8 || i.pattern == 0xC7#8 || i.pattern == 0x1F#8) ∧
  keptByEngines State.rempktPtr ∧
  keptByEngines State.localpktPtr ∧
  keptByEngines State.addressCnt ∧
  (∀ s t : State, exec .rdReset s = .next t → t.rempktPtr = 0#8 ∧ t.localpktPtr = 0#8 ∧ t.addressCnt = 0#16)

/-- A reserved read returns the fixed byte of its page and offset and changes nothing (R102, R101, R122, R123, R180, R192).
That ReservedRead is a field `cfg` of every state which no access changes, and its bytes, are the model's (log entries 5 and 9). -/
def Obligations.ReservedReadsReturnOneFixedByte : Prop :=
  readsAs 0x0A 0xFF .rdP0Rsv0a (fun s => s.cfg.reserved[10]) ∧
  readsAs 0x0B 0xFF .rdP0Rsv0b (fun s => s.cfg.reserved[11]) ∧
  readsAs 0x48 0xFF .rdP2Rsv8 (fun s => s.cfg.reserved[40]) ∧
  readsAs 0x49 0xFF .rdP2Rsv9 (fun s => s.cfg.reserved[41]) ∧
  readsAs 0x4A 0xFF .rdP2Rsva (fun s => s.cfg.reserved[42]) ∧
  readsAs 0x4B 0xFF .rdP2Rsvb (fun s => s.cfg.reserved[43]) ∧
  readsAs 0x61 0xFF .rdP31 (fun s => s.cfg.reserved[49]) ∧
  readsAs 0x62 0xFF .rdP32 (fun s => s.cfg.reserved[50]) ∧
  readsAs 0x63 0xFF .rdP33 (fun s => s.cfg.reserved[51]) ∧
  readsAs 0x64 0xFF .rdP34 (fun s => s.cfg.reserved[52]) ∧
  readsAs 0x65 0xFF .rdP35 (fun s => s.cfg.reserved[53]) ∧
  readsAs 0x66 0xFF .rdP36 (fun s => s.cfg.reserved[54]) ∧
  readsAs 0x67 0xFF .rdP37 (fun s => s.cfg.reserved[55]) ∧
  readsAs 0x68 0xFF .rdP38 (fun s => s.cfg.reserved[56]) ∧
  readsAs 0x69 0xFF .rdP39 (fun s => s.cfg.reserved[57]) ∧
  readsAs 0x6A 0xFF .rdP3A (fun s => s.cfg.reserved[58]) ∧
  readsAs 0x6B 0xFF .rdP3B (fun s => s.cfg.reserved[59]) ∧
  readsAs 0x6C 0xFF .rdP3C (fun s => s.cfg.reserved[60]) ∧
  readsAs 0x6D 0xFF .rdP3D (fun s => s.cfg.reserved[61]) ∧
  readsAs 0x6E 0xFF .rdP3E (fun s => s.cfg.reserved[62]) ∧
  readsAs 0x6F 0xFF .rdP3F (fun s => s.cfg.reserved[63]) ∧
  writesAs 0xE1 0xFF .wrP31 (fun _ s => s) ∧
  writesAs 0xE2 0xFF .wrP32 (fun _ s => s) ∧
  writesAs 0xE3 0xFF .wrP33 (fun _ s => s) ∧
  writesAs 0xE4 0xFF .wrP34 (fun _ s => s) ∧
  writesAs 0xE5 0xFF .wrP35 (fun _ s => s) ∧
  writesAs 0xE6 0xFF .wrP36 (fun _ s => s) ∧
  writesAs 0xE7 0xFF .wrP37 (fun _ s => s) ∧
  writesAs 0xE8 0xFF .wrP38 (fun _ s => s) ∧
  writesAs 0xE9 0xFF .wrP39 (fun _ s => s) ∧
  writesAs 0xEA 0xFF .wrP3A (fun _ s => s) ∧
  writesAs 0xEB 0xFF .wrP3B (fun _ s => s) ∧
  writesAs 0xEC 0xFF .wrP3C (fun _ s => s) ∧
  writesAs 0xED 0xFF .wrP3D (fun _ s => s) ∧
  writesAs 0xEE 0xFF .wrP3E (fun _ s => s) ∧
  writesAs 0xEF 0xFF .wrP3F (fun _ s => s) ∧
  changedOnlyBy State.cfg (fun _ => false) ∧
  changedOnlyBy State.page3 (fun i => i.pattern == 0x1F#8)

/-- A reserved write, a page-3 write and a reset-port write change nothing (R188, R193, R210). -/
def Obligations.ReservedWritesChangeNothing : Prop :=
  writesAs 0xC4 0xFF .wrP2Rsv4 (fun _ s => s) ∧
  writesAs 0xC8 0xFF .wrP2Rsv8 (fun _ s => s) ∧
  writesAs 0xC9 0xFF .wrP2Rsv9 (fun _ s => s) ∧
  writesAs 0xCA 0xFF .wrP2Rsva (fun _ s => s) ∧
  writesAs 0xCB 0xFF .wrP2Rsvb (fun _ s => s) ∧
  writesAs 0xCC 0xFF .wrP2Rsvc (fun _ s => s) ∧
  writesAs 0xCD 0xFF .wrP2Rsvd (fun _ s => s) ∧
  writesAs 0xCE 0xFF .wrP2Rsve (fun _ s => s) ∧
  writesAs 0xCF 0xFF .wrP2Rsvf (fun _ s => s) ∧
  writesAs 0xE1 0xFF .wrP31 (fun _ s => s) ∧
  writesAs 0xE2 0xFF .wrP32 (fun _ s => s) ∧
  writesAs 0xE3 0xFF .wrP33 (fun _ s => s) ∧
  writesAs 0xE4 0xFF .wrP34 (fun _ s => s) ∧
  writesAs 0xE5 0xFF .wrP35 (fun _ s => s) ∧
  writesAs 0xE6 0xFF .wrP36 (fun _ s => s) ∧
  writesAs 0xE7 0xFF .wrP37 (fun _ s => s) ∧
  writesAs 0xE8 0xFF .wrP38 (fun _ s => s) ∧
  writesAs 0xE9 0xFF .wrP39 (fun _ s => s) ∧
  writesAs 0xEA 0xFF .wrP3A (fun _ s => s) ∧
  writesAs 0xEB 0xFF .wrP3B (fun _ s => s) ∧
  writesAs 0xEC 0xFF .wrP3C (fun _ s => s) ∧
  writesAs 0xED 0xFF .wrP3D (fun _ s => s) ∧
  writesAs 0xEE 0xFF .wrP3E (fun _ s => s) ∧
  writesAs 0xEF 0xFF .wrP3F (fun _ s => s) ∧
  writesAs 0x9F 0x9F .wrReset (fun _ s => s) ∧
  (∀ (v : Byte) (s t : State), exec (.wrP2Rsv4 v) s = .next t →
    exec .rdP2Tpsr t = .next { t with readData := some s.txPageStart })

/-- RD_DATA returns the byte at remote_dma, then advances the address, counts down, and completes at count 0 (R201, R202, R204, R205). -/
def Obligations.DataPortReadReturnsAndAdvances : Prop :=
  ∀ (s : State) (i : Instr), i ∈ dataReads →
    exec i s = .next { dmaAdvanced s with readData := some (chipRead8 s (s.remoteDma.toNat : Int)) }

/-- WR_DATA is dropped at count 0; else it stores one byte where memory is backed, then advances like a read (R203). -/
def Obligations.DataPortWriteStoresAndAdvances : Prop :=
  ∀ (s : State) (v : Byte) (i : Instr), i ∈ dataWrites v →
    (s.remoteBytes = 0#16 → exec i s = .next s) ∧
    (s.remoteBytes ≠ 0#16 → Memory.wf s.mem →
      ∃ t, exec i s = .next t ∧ { t with mem := s.mem } = dmaAdvanced s ∧ Memory.wf t.mem ∧
        ∀ a : Int, chipRead8 t a =
          if a = (s.remoteDma.toNat : Int) ∧ 32 ≤ a ∧ (s.cfg.memStart : Int) ≤ a ∧ a < (s.cfg.memStart : Int) + 16384
          then v else chipRead8 s a)

/-- Over any transfer the count falls by the lengths of its accesses, and rdma_done ends set exactly when the count ends 0 (R211). -/
def Obligations.TransferCountsItsLengths : Prop :=
  ∀ (accesses : List (Option Byte)) (s : State), accesses ≠ [] → transferCounts accesses s →
    ∃ t, transfer accesses s = .next t ∧ (transferLengths accesses s).length = accesses.length ∧
      t.remoteBytes.toNat = s.remoteBytes.toNat - (transferLengths accesses s).sum ∧
      (s.isr.rdmaDone = false → (t.isr.rdmaDone = true ↔ t.remoteBytes = 0#16))

/-- Reading the PROM by remote DMA gives the station address, once in word mode and twice over in byte mode (R212). -/
def Obligations.PromReadsOutTheStationAddress : Prop :=
  ∀ s : State, s.Inv → s.remoteDma = 0#16 → s.remoteBytes = 12#16 →
    (s.dcr.wdsize = true → bytesRead 6 s = s.physaddr.toList ∧
      ∃ t, transfer (List.replicate 6 none) s = .next t ∧ t.remoteDma = 12#16 ∧ t.remoteBytes = 0#16) ∧
    (s.dcr.wdsize = false → bytesRead 12 s =
      [s.physaddr[0], s.physaddr[0], s.physaddr[1], s.physaddr[1], s.physaddr[2], s.physaddr[2],
        s.physaddr[3], s.physaddr[3], s.physaddr[4], s.physaddr[4], s.physaddr[5], s.physaddr[5]]) ∧
    (∀ a : Int, 12 ≤ a → a < 32 → chipRead8 s a = 0x57#8)

/-- RD_RESET leaves every register at its reset value, the memory zero, the PROM recomputed, and keeps address, hash table and logs (R47, R209, R277, R290, R294). -/
def Obligations.ResetPortReadResetsTheBlock : Prop :=
  (∀ k v : Byte, k &&& 0x9F = 0x1F → decodeAccess k v = some .rdReset) ∧
  ∀ s : State, ∃ t, exec .rdReset s = .next t ∧ t.readData.isSome = true ∧ t =
      { s with
        cr := { pgsel := 0, rdmaCmd := 4, txPacket := false, start := false, stop := true }
        isr := { reset := true }, imr := {}, dcr := { longaddr := true }, tcr := {}, tsr := {}, rcr := {}, rsr := {}
        pageStart := 0, pageStop := 0, boundPtr := 0, currPage := 0
        remoteStart := 0, remoteDma := 0, remoteBytes := 0
        txPageStart := 0, txBytes := 0
        localDma := 0, numColl := 0, fifo := 0, tallycnt0 := 0, tallycnt1 := 0, tallycnt2 := 0
        rempktPtr := 0, localpktPtr := 0, addressCnt := 0
        page3 := {}
        macaddr := t.macaddr
        mem := []
        irqLevel := false, txPending := false
        readData := t.readData
        draws := t.draws } ∧
    (∀ a : Int, 32 ≤ a → (s.cfg.memStart : Int) ≤ a → a < (s.cfg.memStart : Int) + 16384 → chipRead8 t a = 0#8) ∧
    (∀ k : Fin 6, t.macaddr[2 * k.val] = s.physaddr[k.val] ∧ t.macaddr[2 * k.val + 1] = s.physaddr[k.val]) ∧
    (∀ j : Fin 20, t.macaddr[12 + j.val] = 0x57#8)

/-- After init every state variable is that of a fresh block with the address and line bound (R47, R48, R290, R291).
That an init keeps the parameters, the logs, the queue and the draw counter is the model's choice (log entry 13). -/
def Obligations.InitConstructsAndResets : Prop :=
  (∀ (s : State) (rest : List Event) (mac : Mac) (irq : Nat), s.inputs = .init mac irq :: rest →
    ∃ t, step s = .next t ∧ t =
      { s with
        irqLine := irq
        cr := { pgsel := 0, rdmaCmd := 4, txPacket := false, start := false, stop := true }
        isr := { reset := true }, imr := {}, dcr := { longaddr := true }, tcr := {}, tsr := {}, rcr := {}, rsr := {}
        pageStart := 0, pageStop := 0, boundPtr := 0, currPage := 0
        remoteStart := 0, remoteDma := 0, remoteBytes := 0
        txPageStart := 0, txBytes := 0
        localDma := 0, numColl := 0, fifo := 0, tallycnt0 := 0, tallycnt1 := 0, tallycnt2 := 0
        physaddr := mac
        mchash := #v[0, 0, 0, 0, 0, 0, 0, 0]
        rempktPtr := 0, localpktPtr := 0, addressCnt := 0
        page3 := {}
        macaddr := t.macaddr
        mem := []
        irqLevel := false, txPending := false
        inputs := rest
        readData := none } ∧
    (t.cr.toByte = 0x21#8 ∧ t.isr.toByte = 0x80#8 ∧ t.dcr.toByte = 0x04#8) ∧
    (∀ a : Int, 32 ≤ a → (s.cfg.memStart : Int) ≤ a → a < (s.cfg.memStart : Int) + 16384 → chipRead8 t a = 0#8) ∧
    (∀ k : Fin 6, t.macaddr[2 * k.val] = mac[k.val] ∧ t.macaddr[2 * k.val + 1] = mac[k.val]) ∧
    (∀ j : Fin 20, t.macaddr[12 + j.val] = 0x57#8)) ∧
  (∀ (s u : State) (mac : Mac) (irq : Nat), s.cfg = u.cfg → s.asserts = u.asserts → s.sent = u.sent →
    s.inputs = u.inputs → s.readData = u.readData → s.draws = u.draws → initBlock mac irq s = initBlock mac irq u)

/-- The state right after reset reads as the spec gives it (R47). -/
def Obligations.ResetStateHoldsTheGivenValues : Prop :=
  let s := State.reset
  s.cr.toByte = 0x21#8 ∧ s.isr.toByte = 0x80#8 ∧ s.dcr.toByte = 0x04#8 ∧ s.imr.toByte = 0#8 ∧ s.tcr.toByte = 0#8 ∧
    s.tsr.toByte = 0#8 ∧ s.rcr.toByte = 0#8 ∧ s.rsr.toByte = 0#8 ∧
  s.pageStart = 0#8 ∧ s.pageStop = 0#8 ∧ s.boundPtr = 0#8 ∧ s.currPage = 0#8 ∧ s.remoteStart = 0#16 ∧
    s.remoteDma = 0#16 ∧ s.remoteBytes = 0#16 ∧ s.txPageStart = 0#8 ∧ s.txBytes = 0#16 ∧ s.localDma = 0#16 ∧
    s.numColl = 0#8 ∧ s.fifo = 0#8 ∧ s.tallycnt0 = 0#8 ∧ s.tallycnt1 = 0#8 ∧ s.tallycnt2 = 0#8 ∧
    s.rempktPtr = 0#8 ∧ s.localpktPtr = 0#8 ∧ s.addressCnt = 0#16 ∧ s.page3 = {} ∧
  s.mem = [] ∧ s.irqLevel = false ∧ s.txPending = false ∧ s.mchash = #v[0, 0, 0, 0, 0, 0, 0, 0] ∧
    s.macaddr = promOf s.physaddr ∧ initBlock s.physaddr s.irqLine s = s

/-- A frame is dropped, with no change of state, exactly when the device is stopped, has no ring, lacks space, or the frame is a runt or filtered out (R221, R222, R223, R225, R240). -/
def Obligations.DroppedFrameChangesNothing : Prop :=
  (∀ (s : State) (bytes : List Byte), acceptsFrame s bytes = false → receive bytes s = s) ∧
  (∀ (s : State) (bytes : List Byte), acceptsFrame s bytes = false ↔
    s.cr.stop = true ∨ s.pageStart = 0#8 ∨ freePages s ≤ (pagesRequired bytes.length : Int) ∨
    (bytes.length < 40 ∧ s.rcr.runtsOk = false) ∨
    acceptsAddress s (destination (bytes ++ List.replicate (60 - bytes.length) 0#8)) = false) ∧
  (∀ n pages : Nat, pagesRequired n = pages ↔ n + 8 ≤ 256 * pages ∧ 256 * pages < n + 8 + 256) ∧
  (∀ n : Nat, n < 60 → pagesRequired n = pagesRequired 60) ∧
  (∀ s : State, freePages s =
    if s.currPage.toNat < s.boundPtr.toNat then (s.boundPtr.toNat : Int) - s.currPage.toNat
    else ((s.pageStop.toNat : Int) - s.pageStart.toNat) - ((s.currPage.toNat : Int) - s.boundPtr.toNat))

/-- The filter: promiscuous all; broadcast by its bit; multicast by its bit and the hash table; unicast by the station address (R227, R228, R229, R231, R232). -/
def Obligations.AddressFilterAccepts : Prop :=
  ∀ (s : State) (dst : Mac), acceptsAddress s dst = true ↔
    s.rcr.promisc = true ∨
    (dst = #v[0xFF, 0xFF, 0xFF, 0xFF, 0xFF, 0xFF] ∧ s.rcr.broadcast = true) ∨
    (dst ≠ #v[0xFF, 0xFF, 0xFF, 0xFF, 0xFF, 0xFF] ∧ dst[0].getLsbD 0 = true ∧ s.rcr.multicast = true ∧
      (s.mchash.toList.getD ((mcastIndex dst).toNat / 8) 0#8).getLsbD ((mcastIndex dst).toNat % 8) = true) ∨
    (dst[0].getLsbD 0 = false ∧ ∀ k : Fin 6, dst[k.val] = s.physaddr[k.val])

/-- The multicast CRC is the bit reversal of the standard reflected CRC-32 without final inversion, and the index is its top six bits (R230). -/
def Obligations.MulticastHashIsTheReflectedCrc : Prop :=
  (∀ dst : Mac, (mcastCrc dst).reverse = reflectedCrc dst ∧ (mcastIndex dst).toNat = (mcastCrc dst).toNat / 2 ^ 26) ∧
  mcastIndex #v[0x01, 0x00, 0x5E, 0x00, 0x00, 0x01] = 31 ∧ mcastCrc #v[0x01, 0x00, 0x5E, 0x00, 0x00, 0x01] = 0x7FA32D9B ∧
  mcastIndex #v[0x33, 0x33, 0x00, 0x00, 0x00, 0x01] = 62 ∧ mcastIndex #v[0xFF, 0xFF, 0xFF, 0xFF, 0xFF, 0xFF] = 63

/-- An accepted frame moves curr_page past it, sets rx_ok, rx_mbit and pkt_rx, asserts if enabled, and changes nothing else outside the ring (R233, R237, R238, R239). -/
def Obligations.AcceptedFrameMovesPointerAndFlags : Prop :=
  ∀ (s : State) (bytes : List Byte), acceptsFrame s bytes = true →
    let pages : Int := pagesRequired bytes.length
    let next : Int := (s.currPage.toNat : Int) + pages
    let wrapped : Int := if next ≥ s.pageStop.toNat then next - ((s.pageStop.toNat : Int) - s.pageStart.toNat) else next
    let t := receive bytes s
    t = { s with
          currPage := BitVec.ofInt 8 wrapped
          rsr := { s.rsr with rxOk := true, rxMbit := s.rsr.rxMbit || (destination (padded bytes))[0].getLsbD 0 }
          isr := { s.isr with pktRx := true }
          asserts := s.asserts ++ (if s.imr.rxInte then [s.irqLine] else [])
          irqLevel := s.irqLevel || s.imr.rxInte
          mem := t.mem
          draws := t.draws } ∧
    (Memory.wf s.mem → Memory.wf t.mem ∧
      ∀ a : Int, (∀ n, n < (padded bytes).length + 8 → ringAddr s n ≠ a) → chipRead8 t a = chipRead8 s a)

/-- In a configured ring an accepted frame stands behind its header, split at page_stop, and reads back whole (R226, R234, R235). -/
def Obligations.AcceptedFrameStandsInTheRing : Prop :=
  ∀ (s : State) (bytes : List Byte), s.Inv → RingConfigured s → acceptsFrame s bytes = true →
    let t := receive bytes s
    let p := bytes ++ List.replicate (60 - bytes.length) 0#8
    frameByte t s.currPage 0 = (if (destination p)[0].getLsbD 0 then 0x21#8 else 0x01#8) ∧
    frameByte t s.currPage 1 = t.currPage ∧
    (frameByte t s.currPage 2).toNat + 256 * (frameByte t s.currPage 3).toNat = p.length + 4 ∧
    frameLength t s.currPage = max bytes.length 60 ∧
    frameAt t s.currPage = p ∧
    ∀ n : Nat, ringAddr s n =
      if s.pageStop.toNat * 256 ≤ s.currPage.toNat * 256 + n
      then (s.currPage.toNat : Int) * 256 + n - ((s.pageStop.toNat : Int) - s.pageStart.toNat) * 256
      else (s.currPage.toNat : Int) * 256 + n

/-- Frames that fit the ring together read back byte-identical by following the next-page bytes (R241). -/
def Obligations.DeliveredFramesReadBackInOrder : Prop :=
  ∀ (frames : List (List Byte)) (s : State), s.Inv → RingConfigured s → allAccepted frames s →
    (frames.map fun f => pagesRequired f.length).sum ≤ s.pageStop.toNat - s.pageStart.toNat - 1 →
    framesFrom (deliver frames s) s.currPage frames.length = frames.map padded

/-- A frame is dropped when the free pages are at most the pages it needs; an accepted one leaves a free page and a configured ring (R224). -/
def Obligations.RingIsNeverFull : Prop :=
  (∀ (s : State) (bytes : List Byte), freePages s ≤ (pagesRequired bytes.length : Int) → receive bytes s = s) ∧
  (∀ (s : State) (bytes : List Byte), RingConfigured s → acceptsFrame s bytes = true →
    RingConfigured (receive bytes s) ∧ freePages (receive bytes s) = freePages s - pagesRequired bytes.length ∧
    1 ≤ freePages (receive bytes s) ∧ (receive bytes s).currPage ≠ s.boundPtr)

/-- A buffer read returns the PROM, the backed byte or 0xFF; a word read joins two of them, low address low (R72, R73, R74). -/
def Obligations.BufferReadsByRegion : Prop :=
  (∀ (s : State) (k : Fin 32), chipRead8 s (k.val : Int) = s.macaddr[k.val]) ∧
  (∀ (s : State) (a : Int), ¬(0 ≤ a ∧ a < 32) → (s.cfg.memStart : Int) ≤ a → a < (s.cfg.memStart : Int) + 16384 →
    chipRead8 s a = Memory.read s.mem (a - s.cfg.memStart).toNat) ∧
  (∀ (s : State) (a : Int), ¬(0 ≤ a ∧ a < 32) →
    ¬((s.cfg.memStart : Int) ≤ a ∧ a < (s.cfg.memStart : Int) + 16384) → chipRead8 s a = 0xFF#8) ∧
  (∀ (s : State) (a : Int), (chipRead16 s a).toNat = (chipRead8 s a).toNat + 256 * (chipRead8 s (a + 1)).toNat)

/-- A buffer write is read back where memory is backed, changes no other byte and never the PROM (R75, R76). -/
def Obligations.BufferWriteIsReadBack : Prop :=
  (∀ (s : State) (a b : Int) (v : Byte), Memory.wf s.mem →
    (chipRead8 (chipWrite8 s a v) b =
      if b = a ∧ 0 ≤ a ∧ a ≤ 0xFFFF ∧ ¬(0 ≤ a ∧ a < 32) ∧ (s.cfg.memStart : Int) ≤ a ∧ a < (s.cfg.memStart : Int) + 16384
      then v else chipRead8 s b) ∧
    Memory.wf (chipWrite8 s a v).mem ∧ { chipWrite8 s a v with mem := s.mem } = s) ∧
  changedOnlyBy State.macaddr (fun i => i.pattern == 0x1F#8) ∧ keptByEngines State.macaddr

/-- The state after reset meets the invariant (R47, R49, 10_state.md section 8). -/
def Obligations.ResetStateMeetsTheInvariant : Prop :=
  State.reset.Inv

/-- Every step of every agent keeps the invariant (R22, R26, R28, R33, R34, R38, R39, R42, R49, R111). -/
def Obligations.EveryStepKeepsTheInvariant : Prop :=
  ∀ s t : State, s.Inv → step s = .next t → t.Inv

/-- Only a CR write and a data-port access assert, a step appends at most three calls on the line, and the logs are never cut (R274, R278, R43, R277, R291).
That an init keeps both logs is the model's choice (log entry 13). -/
def Obligations.AssertionsAreLoggedAndNeverWithdrawn : Prop :=
  (∀ (i : Instr) (s t : State), exec i s = .next t →
    (∃ n ≤ 3, t.asserts = s.asserts ++ List.replicate n s.irqLine ∧
      (0 < n → isDataPort i = true ∨ ∃ v, i = .wrCr v)) ∧
    (isDataPort i = true → t.asserts = s.asserts ∨ (t.asserts = s.asserts ++ [s.irqLine] ∧
      s.imr.rdmaInte = true ∧ t.remoteBytes = 0#16)) ∧
    (t.sent = s.sent ∨ ((∃ v, i = .wrCr v) ∧ t.sent = s.sent ++ [transmitRegion s]))) ∧
  (∀ (s : State) (bytes : List Byte), (receive bytes s).asserts = s.asserts ++
    (if acceptsFrame s bytes = true ∧ s.imr.rxInte = true then [s.irqLine] else []) ∧
    (receive bytes s).sent = s.sent) ∧
  (∀ s : State, (txComplete s).asserts = s.asserts ++
    (if s.imr.txInte = true ∧ s.isr.pktTx = false then [s.irqLine] else []) ∧ (txComplete s).sent = s.sent) ∧
  (∀ (s : State) (mac : Mac) (irq : Nat), (resetBlock s).asserts = s.asserts ∧ (resetBlock s).sent = s.sent ∧
    (initBlock mac irq s).asserts = s.asserts ∧ (initBlock mac irq s).sent = s.sent)

/-- irq_level rises only with an assertion and falls only at an ISR write or a reset (R273, R276). -/
def Obligations.InterruptLevelFollowsAssertions : Prop :=
  (∀ (i : Instr) (s t : State), exec i s = .next t →
    (t.irqLevel = true → s.irqLevel = true ∨ s.asserts.length < t.asserts.length) ∧
    (s.asserts.length < t.asserts.length → t.irqLevel = true) ∧
    (s.irqLevel = true → t.irqLevel = false →
      i = .rdReset ∨ ∃ v, i = .wrP0Isr v ∧ t.isr.toByte &&& t.imr.toByte &&& 0x7F#8 = 0#8)) ∧
  (∀ s : State, assertIrq s = { s with asserts := s.asserts ++ [s.irqLine], irqLevel := true }) ∧
  (∀ (v : Byte) (s : State), ∃ t, exec (.wrP0Imr v) s = .next t ∧ t.irqLevel = s.irqLevel ∧ t.asserts = s.asserts)

/-- An ISR bit is cleared only by writing 1 to it or by reset, and the error bits are never set (R22). -/
def Obligations.IsrBitsFallOnlyByAcknowledgeOrReset : Prop :=
  (∀ (i : Instr) (s t : State), exec i s = .next t → (∀ v, i ≠ .wrP0Isr v) → i ≠ .rdReset →
    s.isr.toByte &&& ~~~t.isr.toByte = 0#8 ∧ t.isr.toByte &&& 0x3C#8 = s.isr.toByte &&& 0x3C#8) ∧
  (∀ (s : State) (bytes : List Byte),
    s.isr.toByte &&& ~~~(receive bytes s).isr.toByte = 0#8 ∧ s.isr.toByte &&& ~~~(txComplete s).isr.toByte = 0#8 ∧
    (receive bytes s).isr.toByte &&& 0x3C#8 = s.isr.toByte &&& 0x3C#8 ∧
    (txComplete s).isr.toByte &&& 0x3C#8 = s.isr.toByte &&& 0x3C#8) ∧
  (∀ (v : Byte) (s t : State), exec (.wrP0Isr v) s = .next t → s.isr.toByte &&& ~~~t.isr.toByte &&& ~~~v = 0#8) ∧
  (∀ r : Isr, (List.range 8).map r.toByte.getLsbD =
    [r.pktRx, r.pktTx, r.rxErr, r.txErr, r.overwrite, r.cntOflow, r.rdmaDone, r.reset]) ∧
  (∀ s t : State, exec .rdReset s = .next t → t.isr.toByte = 0x80#8) ∧
  (∀ s : State, s.Inv → s.isr.toByte &&& 0x3C#8 = 0#8)

/-- The bits of CR, IMR, DCR, TCR, TSR, RCR and RSR lie where their layouts say (10_state.md section 2 (R21, R23 to R28)).
The positions other than CR's are the DS8390 layout (log entry 18). -/
def Obligations.StatusRegisterBitsLieAsLaidOut : Prop :=
  (∀ r : Cr, (List.range 8).map r.toByte.getLsbD = [r.stop, r.start, r.txPacket, r.rdmaCmd.getLsbD 0,
    r.rdmaCmd.getLsbD 1, r.rdmaCmd.getLsbD 2, r.pgsel.getLsbD 0, r.pgsel.getLsbD 1]) ∧
  (∀ r : Imr, (List.range 8).map r.toByte.getLsbD = [r.rxInte, r.txInte, r.rxerrInte, r.txerrInte, r.overwInte,
    r.coflInte, r.rdmaInte, false]) ∧
  (∀ r : Dcr, (List.range 8).map r.toByte.getLsbD = [r.wdsize, r.endian, r.longaddr, r.loop, r.autoRx,
    r.fifoSize.getLsbD 0, r.fifoSize.getLsbD 1, false]) ∧
  (∀ r : Tcr, (List.range 8).map r.toByte.getLsbD = [r.crcDisable, r.loopCntl.getLsbD 0, r.loopCntl.getLsbD 1,
    r.extStoptx, r.collPrio, false, false, false]) ∧
  (∀ r : Tsr, (List.range 8).map r.toByte.getLsbD = [r.txOk, false, r.collided, r.aborted, r.noCarrier, r.fifoUr,
    r.cdHbeat, r.owColl]) ∧
  (∀ r : Rcr, (List.range 8).map r.toByte.getLsbD = [r.errorsOk, r.runtsOk, r.broadcast, r.multicast, r.promisc,
    r.monitor, false, false]) ∧
  (∀ r : Rsr, (List.range 8).map r.toByte.getLsbD = [r.rxOk, r.badCrc, r.badFalign, r.fifoOr, r.rxMissed, r.rxMbit,
    r.rxDisabled, r.deferred])

/-- Only a CR write selects a page, the one its bits 7:6 name, and only reset returns to page 0 otherwise (R51). -/
def Obligations.PageChangesOnlyByCommandWrite : Prop :=
  (∀ (i : Instr) (s t : State), exec i s = .next t → t.cr.pgsel ≠ s.cr.pgsel →
    (∃ v, i = .wrCr v ∧ t.cr.pgsel = v.extractLsb' 6 2) ∨ (i = .rdReset ∧ t.cr.pgsel = 0#2)) ∧
  (∀ (v : Byte) (s t : State), exec (.wrCr v) s = .next t → t.cr.pgsel = v.extractLsb' 6 2) ∧
  keptByEngines (fun s => s.cr.pgsel) ∧
  (∀ (pp qq : BitVec 2) (off : BitVec 5) (v : Byte), off = 0#5 ∨ 16 ≤ off.toNat →
    decodeAccess (descriptor false pp off) v = decodeAccess (descriptor false qq off) v ∧
    decodeAccess (descriptor true pp off) v = decodeAccess (descriptor true qq off) v)

/-- Every read but those of the data port and the reset port changes nothing and returns the same byte again (R79). -/
def Obligations.RegisterReadsHaveNoSideEffect : Prop :=
  (∀ (i : Instr) (s : State), i.dataByte = none → isDataPort i = false → i ≠ .rdReset →
    ∃ b : Byte, exec i s = .next { s with readData := some b } ∧
      exec i { s with readData := some b } = .next { s with readData := some b }) ∧
  (∀ (s : State) (i : Instr), i ∈ dataReads → ∃ t, exec i s = .next t ∧ t.remoteDma = BitVec.ofNat 16 (dmaNextAddress s)) ∧
  (∀ s : State, ∃ t, exec .rdReset s = .next t ∧ t.cr.toByte = 0x21#8)

/-- The fields the spec gives no effect have none: two blocks that differ only in them stay so (R46, R21).
Both runs share one draw counter, so the CRC-slot bytes and the byte of the reset-port read, free in the spec (R236, R209), are the same in both: that is the model's choice (log entry 10). -/
def Obligations.UnusedFieldsNeverMatter : Prop :=
  (∀ (i : Instr) (s t : State), s.Inv → withoutUnused s = withoutUnused t →
    i.dataByte.isSome = true ∨ isDataPort i = true ∨ i = .rdReset → sameButUnused (exec i s) (exec i t)) ∧
  (∀ (s t : State), withoutUnused s = withoutUnused t →
    withoutUnused (txComplete s) = withoutUnused (txComplete t) ∧
    ∀ bytes, withoutUnused (receive bytes s) = withoutUnused (receive bytes t)) ∧
  (∀ (v w : Byte) (s : State), v &&& 0xC7#8 = w &&& 0xC7#8 →
    v.extractLsb' 3 3 ≠ 1#3 → v.extractLsb' 3 3 ≠ 3#3 → w.extractLsb' 3 3 ≠ 1#3 → w.extractLsb' 3 3 ≠ 3#3 →
    sameButUnused (exec (.wrCr v) s) (exec (.wrCr w) s))

/-- Word, string and page pseudo-accesses expand into byte accesses, and a word read joins its two bytes low first (R107, R106, R78, R94, R120, R121, R135, R136).
Programs as lists of events are the model's form (log entry 21). -/
def Obligations.WideAccessesSplitLowestPortFirst : Prop :=
  (∀ (c : Config) (off : BitVec 5) (w : Word) (v : Byte) (n : Nat) (bytes : List Byte),
    outw c off w = [.write (c.ioBase + off.toNat) (w.extractLsb' 0 8), .write (c.ioBase + off.toNat + 1) (w.extractLsb' 8 8)] ∧
    (off.toNat < 0x1F → outw c off w = [outb c off (w.extractLsb' 0 8), outb c (off + 1) (w.extractLsb' 8 8)] ∧
      inw c off = [inb c off, inb c (off + 1)]) ∧
    insb c off 0 = [] ∧ insb c off (n + 1) = inb c off :: insb c off n ∧
    outsb c off [] = [] ∧ outsb c off (v :: bytes) = outb c off v :: outsb c off bytes) ∧
  (∀ (s : State) (off : BitVec 5), off.toNat < 0x1F → ∃ u t low high w,
    step { s with inputs := inb s.cfg off :: s.inputs } = .next u ∧ u.readData = some low ∧
    step { u with inputs := inb s.cfg (off + 1) :: u.inputs } = .next t ∧ t.readData = some high ∧
    performAll (inw s.cfg off) s = .next (t, [low, high]) ∧
    inwResult [low, high] = some w ∧ w.toNat = low.toNat + 256 * high.toNat) ∧
  (∀ (s : State) (w : Word), s.cr.pgsel = 0#2 →
    performAll (outw s.cfg 0x08 w) s = .next ({ s with remoteStart := w, remoteDma := w, readData := none }, []) ∧
    ∃ t bytes, performAll (inw s.cfg 0x08) s = .next (t, bytes) ∧ inwResult bytes = some s.remoteDma) ∧
  (∀ (s : State) (off : BitVec 5) (n : Nat) (bytes : List Byte), 0x10 ≤ off.toNat → off.toNat ≤ 0x1E →
    (∃ t, performAll (insb s.cfg off n) s = .next (t, bytesRead n s) ∧ (bytesRead n s).length = n) ∧
    ∃ t u, transfer (bytes.map some) s = .next t ∧ performAll (outsb s.cfg off bytes) s = .next (u, []) ∧
      u = { t with readData := u.readData }) ∧
  (∀ (s : State) (n : BitVec 2) (rest : BitVec 6),
    (∃ v, page s.cfg n rest = outb s.cfg 0x00 v ∧ v.extractLsb' 6 2 = n ∧ v.extractLsb' 0 6 = rest) ∧
    (rest.getLsbD 2 = false → ∃ t, performAll [page s.cfg n rest] s = .next (t, []) ∧ t.cr.pgsel = n))

/-- With page_stop not above page_start and bound_ptr not above curr_page every frame is refused; below bound_ptr page_stop is not looked at (R129, R220, R222, R223, R224).
R129's remark differs from R220 and R223 where curr_page is below bound_ptr, and the model follows these (log entry 27). -/
def Obligations.RingWithoutPagesRefusesFrames : Prop :=
  ∀ (v : Byte) (s : State), ∃ t, exec (.wrP0Pstop v) s = .next t ∧ t = { s with pageStop := v } ∧
    (v.toNat ≤ s.pageStart.toNat → s.boundPtr.toNat ≤ s.currPage.toNat →
      freePages t ≤ 0 ∧ ∀ bytes : List Byte, acceptsFrame t bytes = false ∧ receive bytes t = t) ∧
    (s.currPage.toNat < s.boundPtr.toNat → freePages t = (s.boundPtr.toNat : Int) - s.currPage.toNat ∧
      ∀ bytes : List Byte, acceptsFrame t bytes = acceptsFrame s bytes)
end

