-- ==== Sys2Proof/Laws/Memory.lean ====
section
/-! SUPPORT. The laws of the buffer memory: a read after a write, and that every memory operation keeps the canonical form. -/

namespace Sys2Proof.Machine

/-- Every listed index is above `i`. -/
abbrev Memory.above (m : Memory) (i : Nat) : Prop := ∀ c ∈ m, i < c.1

theorem Memory.wf_nil : Memory.wf [] := ⟨List.Pairwise.nil, by simp⟩

theorem Memory.wf_cons {c : Host.Cell} {m : Memory} :
    Memory.wf (c :: m) ↔ (c.1 < memSize ∧ c.2 ≠ 0#8) ∧ Memory.above m c.1 ∧ Memory.wf m := by
  simp only [Memory.wf, List.map_cons, List.pairwise_cons, List.mem_map, List.mem_cons,
    forall_exists_index, and_imp, forall_apply_eq_imp_iff₂, forall_eq_or_imp]
  tauto

@[simp] theorem Memory.read_nil (i : Nat) : Memory.read [] i = 0#8 := rfl

theorem Memory.read_cons (j : Nat) (b : Byte) (m : Memory) (i : Nat) :
    Memory.read ((j, b) :: m) i = if i = j then b else Memory.read m i := rfl

theorem Memory.read_of_above {m : Memory} {i k : Nat} (h : Memory.above m i) (hk : k ≤ i) :
    Memory.read m k = 0#8 := by
  induction m with
  | nil => rfl
  | cons c m ih =>
    have hc : i < c.1 := h c (by simp)
    rw [Memory.read_cons, if_neg (by omega)]
    exact ih fun d hd => h d (by simp [hd])

theorem Memory.above_consCell {i j : Nat} {v : Byte} {m : Memory} (hi : j < i)
    (h : Memory.above m j) : Memory.above (Memory.consCell i v m) j := by
  unfold Memory.consCell
  split
  · exact h
  · intro c hc
    rcases List.mem_cons.1 hc with rfl | hc
    · exact hi
    · exact h c hc

theorem Memory.consCell_wf {i : Nat} {v : Byte} {m : Memory} (hi : i < memSize)
    (ha : Memory.above m i) (h : Memory.wf m) : Memory.wf (Memory.consCell i v m) := by
  unfold Memory.consCell
  split
  · exact h
  · exact Memory.wf_cons.2 ⟨⟨hi, ‹_›⟩, ha, h⟩

theorem Memory.read_consCell {i : Nat} {v : Byte} {m : Memory} (ha : Memory.above m i) (k : Nat) :
    Memory.read (Memory.consCell i v m) k = if k = i then v else Memory.read m k := by
  unfold Memory.consCell
  split
  · split
    · subst v
      exact Memory.read_of_above ha (by omega)
    · rfl
  · exact Memory.read_cons ..

theorem Memory.above_write {m : Memory} {i j : Nat} {v : Byte} (hj : j < i)
    (h : Memory.above m j) : Memory.above (Memory.write m i v) j := by
  induction m with
  | nil => exact Memory.above_consCell hj h
  | cons c m ih =>
    have hm : Memory.above m j := fun d hd => h d (by simp [hd])
    simp only [Memory.write]
    split
    · exact Memory.above_consCell hj h
    · split
      · exact Memory.above_consCell hj hm
      · intro d hd
        rcases List.mem_cons.1 hd with rfl | hd
        · exact h _ (by simp)
        · exact ih hm d hd

/-- A write of a backed index keeps the canonical form. -/
theorem Memory.write_wf {m : Memory} {i : Nat} {v : Byte} (hi : i < memSize)
    (h : Memory.wf m) : Memory.wf (Memory.write m i v) := by
  induction m with
  | nil => exact Memory.consCell_wf hi (by simp) h
  | cons c m ih =>
    obtain ⟨hc, ha, hm⟩ := Memory.wf_cons.1 h
    simp only [Memory.write]
    split
    · refine Memory.consCell_wf hi (fun d hd => ?_) h
      rcases List.mem_cons.1 hd with rfl | hd
      · assumption
      · have := ha d hd
        omega
    · split
      · subst i
        exact Memory.consCell_wf hi ha hm
      · exact Memory.wf_cons.2 ⟨hc, Memory.above_write (show c.1 < i by omega) ha, ih hm⟩

/-- A read after a write: the new byte at the written index, every other index as before. -/
theorem Memory.read_write {m : Memory} (h : Memory.wf m) (i : Nat) (v : Byte) (k : Nat) :
    Memory.read (Memory.write m i v) k = if k = i then v else Memory.read m k := by
  induction m with
  | nil => exact Memory.read_consCell (by simp) k
  | cons c m ih =>
    obtain ⟨-, ha, hm⟩ := Memory.wf_cons.1 h
    simp only [Memory.write]
    split
    · refine Memory.read_consCell (fun d hd => ?_) k
      rcases List.mem_cons.1 hd with rfl | hd
      · assumption
      · have := ha d hd
        omega
    · split
      · subst i
        rw [Memory.read_consCell ha, Memory.read_cons]
        split <;> rfl
      · rw [Memory.read_cons, Memory.read_cons, ih hm]
        split
        · rw [if_neg (by omega)]
        · rfl

theorem backed_iff {c : Config} {a : Int} :
    backed c a = true ↔ (c.memStart : Int) ≤ a ∧ a < (c.memStart : Int) + memSize := by
  simp [backed, Config.memEnd]

/-- `ChipWrite8` keeps the canonical form whatever the address is. -/
theorem memoryWrite8_wf {c : Config} {m : Memory} (h : Memory.wf m) (a : Int) (v : Byte) :
    Memory.wf (memoryWrite8 c m a v) := by
  unfold memoryWrite8
  split
  · rename_i hb
    simp only [Bool.and_eq_true, backed_iff] at hb
    exact Memory.write_wf (by omega) h
  · exact h

theorem ringWrite_wf {s : State} {m : Memory} (h : Memory.wf m) (i : Nat) (bytes : List Byte) :
    Memory.wf (ringWrite s m i bytes) := by
  induction bytes generalizing m i with
  | nil => exact h
  | cons b rest ih => exact ih (memoryWrite8_wf h _ _) _

/-- What a buffer read sees after a buffer write: the new byte at that address if it was backed and not under the PROM window, every other address as before. -/
theorem memoryWrite8_read {c : Config} {m : Memory} (h : Memory.wf m) {a b : Int} (v : Byte)
    (hb : backed c b = true) :
    Memory.read (memoryWrite8 c m a v) (b - c.memStart).toNat =
      if b = a ∧ 0 ≤ a ∧ a ≤ 0xFFFF then v else Memory.read m (b - c.memStart).toNat := by
  unfold memoryWrite8
  simp only [Bool.and_eq_true, decide_eq_true_eq, backed_iff] at *
  split
  · rw [Memory.read_write h]
    congr 1
    apply propext
    omega
  · rw [if_neg]
    rintro ⟨rfl, h0, h1⟩
    tauto

/-- A ring copy leaves every backed byte alone that none of its positions names (R235). -/
theorem ringWrite_read_of_ne {s : State} {m : Memory} (h : Memory.wf m) (i : Nat) (bytes : List Byte) {b : Int}
    (hb : backed s.cfg b = true) (hn : ∀ n, i ≤ n → n < i + bytes.length → ringAddr s n ≠ b) :
    Memory.read (ringWrite s m i bytes) (b - s.cfg.memStart).toNat = Memory.read m (b - s.cfg.memStart).toNat := by
  induction bytes generalizing m i with
  | nil => rfl
  | cons x rest ih =>
    simp only [List.length_cons] at hn
    rw [ringWrite, ih (memoryWrite8_wf h _ _) (i + 1) fun n h1 h2 => hn n (by omega) (by omega),
      memoryWrite8_read h _ hb, if_neg fun e => hn i (by omega) (by omega) e.1.symm]

/-- Two states read a buffer byte alike where they agree on parameters, PROM and, if it is backed, the memory byte (R72). -/
theorem chipRead8_congr {s t : State} (hc : t.cfg = s.cfg) (hp : t.macaddr = s.macaddr) (a : Int)
    (hm : backed s.cfg a = true →
      Memory.read t.mem (a - s.cfg.memStart).toNat = Memory.read s.mem (a - s.cfg.memStart).toNat) :
    chipRead8 t a = chipRead8 s a := by
  simp only [chipRead8, hc, hp]
  split
  · rfl
  · split
    · exact hm ‹_›
    · rfl

end Sys2Proof.Machine
end

