-- ==== Sys2Proof/Laws/State.lean ====
section
/-! SUPPORT. What each one-field update of the state leaves in each field: the written field holds the new value, every other field is untouched. -/

namespace Sys2Proof.Machine

variable (s : State)

section
variable (v : Nat)
@[simp] theorem State.setIrqLine_cfg : (s.setIrqLine v).cfg = s.cfg := rfl
@[simp] theorem State.setIrqLine_irqLine : (s.setIrqLine v).irqLine = v := rfl
@[simp] theorem State.setIrqLine_cr : (s.setIrqLine v).cr = s.cr := rfl
@[simp] theorem State.setIrqLine_isr : (s.setIrqLine v).isr = s.isr := rfl
@[simp] theorem State.setIrqLine_imr : (s.setIrqLine v).imr = s.imr := rfl
@[simp] theorem State.setIrqLine_dcr : (s.setIrqLine v).dcr = s.dcr := rfl
@[simp] theorem State.setIrqLine_tcr : (s.setIrqLine v).tcr = s.tcr := rfl
@[simp] theorem State.setIrqLine_tsr : (s.setIrqLine v).tsr = s.tsr := rfl
@[simp] theorem State.setIrqLine_rcr : (s.setIrqLine v).rcr = s.rcr := rfl
@[simp] theorem State.setIrqLine_rsr : (s.setIrqLine v).rsr = s.rsr := rfl
@[simp] theorem State.setIrqLine_pageStart : (s.setIrqLine v).pageStart = s.pageStart := rfl
@[simp] theorem State.setIrqLine_pageStop : (s.setIrqLine v).pageStop = s.pageStop := rfl
@[simp] theorem State.setIrqLine_boundPtr : (s.setIrqLine v).boundPtr = s.boundPtr := rfl
@[simp] theorem State.setIrqLine_currPage : (s.setIrqLine v).currPage = s.currPage := rfl
@[simp] theorem State.setIrqLine_remoteStart : (s.setIrqLine v).remoteStart = s.remoteStart := rfl
@[simp] theorem State.setIrqLine_remoteDma : (s.setIrqLine v).remoteDma = s.remoteDma := rfl
@[simp] theorem State.setIrqLine_remoteBytes : (s.setIrqLine v).remoteBytes = s.remoteBytes := rfl
@[simp] theorem State.setIrqLine_txPageStart : (s.setIrqLine v).txPageStart = s.txPageStart := rfl
@[simp] theorem State.setIrqLine_txBytes : (s.setIrqLine v).txBytes = s.txBytes := rfl
@[simp] theorem State.setIrqLine_localDma : (s.setIrqLine v).localDma = s.localDma := rfl
@[simp] theorem State.setIrqLine_numColl : (s.setIrqLine v).numColl = s.numColl := rfl
@[simp] theorem State.setIrqLine_fifo : (s.setIrqLine v).fifo = s.fifo := rfl
@[simp] theorem State.setIrqLine_tallycnt0 : (s.setIrqLine v).tallycnt0 = s.tallycnt0 := rfl
@[simp] theorem State.setIrqLine_tallycnt1 : (s.setIrqLine v).tallycnt1 = s.tallycnt1 := rfl
@[simp] theorem State.setIrqLine_tallycnt2 : (s.setIrqLine v).tallycnt2 = s.tallycnt2 := rfl
@[simp] theorem State.setIrqLine_physaddr : (s.setIrqLine v).physaddr = s.physaddr := rfl
@[simp] theorem State.setIrqLine_mchash : (s.setIrqLine v).mchash = s.mchash := rfl
@[simp] theorem State.setIrqLine_rempktPtr : (s.setIrqLine v).rempktPtr = s.rempktPtr := rfl
@[simp] theorem State.setIrqLine_localpktPtr : (s.setIrqLine v).localpktPtr = s.localpktPtr := rfl
@[simp] theorem State.setIrqLine_addressCnt : (s.setIrqLine v).addressCnt = s.addressCnt := rfl
@[simp] theorem State.setIrqLine_page3 : (s.setIrqLine v).page3 = s.page3 := rfl
@[simp] theorem State.setIrqLine_macaddr : (s.setIrqLine v).macaddr = s.macaddr := rfl
@[simp] theorem State.setIrqLine_mem : (s.setIrqLine v).mem = s.mem := rfl
@[simp] theorem State.setIrqLine_irqLevel : (s.setIrqLine v).irqLevel = s.irqLevel := rfl
@[simp] theorem State.setIrqLine_txPending : (s.setIrqLine v).txPending = s.txPending := rfl
@[simp] theorem State.setIrqLine_asserts : (s.setIrqLine v).asserts = s.asserts := rfl
@[simp] theorem State.setIrqLine_sent : (s.setIrqLine v).sent = s.sent := rfl
@[simp] theorem State.setIrqLine_inputs : (s.setIrqLine v).inputs = s.inputs := rfl
@[simp] theorem State.setIrqLine_readData : (s.setIrqLine v).readData = s.readData := rfl
@[simp] theorem State.setIrqLine_draws : (s.setIrqLine v).draws = s.draws := rfl
end

section
variable (v : Cr)
@[simp] theorem State.setCr_cfg : (s.setCr v).cfg = s.cfg := rfl
@[simp] theorem State.setCr_irqLine : (s.setCr v).irqLine = s.irqLine := rfl
@[simp] theorem State.setCr_cr : (s.setCr v).cr = v := rfl
@[simp] theorem State.setCr_isr : (s.setCr v).isr = s.isr := rfl
@[simp] theorem State.setCr_imr : (s.setCr v).imr = s.imr := rfl
@[simp] theorem State.setCr_dcr : (s.setCr v).dcr = s.dcr := rfl
@[simp] theorem State.setCr_tcr : (s.setCr v).tcr = s.tcr := rfl
@[simp] theorem State.setCr_tsr : (s.setCr v).tsr = s.tsr := rfl
@[simp] theorem State.setCr_rcr : (s.setCr v).rcr = s.rcr := rfl
@[simp] theorem State.setCr_rsr : (s.setCr v).rsr = s.rsr := rfl
@[simp] theorem State.setCr_pageStart : (s.setCr v).pageStart = s.pageStart := rfl
@[simp] theorem State.setCr_pageStop : (s.setCr v).pageStop = s.pageStop := rfl
@[simp] theorem State.setCr_boundPtr : (s.setCr v).boundPtr = s.boundPtr := rfl
@[simp] theorem State.setCr_currPage : (s.setCr v).currPage = s.currPage := rfl
@[simp] theorem State.setCr_remoteStart : (s.setCr v).remoteStart = s.remoteStart := rfl
@[simp] theorem State.setCr_remoteDma : (s.setCr v).remoteDma = s.remoteDma := rfl
@[simp] theorem State.setCr_remoteBytes : (s.setCr v).remoteBytes = s.remoteBytes := rfl
@[simp] theorem State.setCr_txPageStart : (s.setCr v).txPageStart = s.txPageStart := rfl
@[simp] theorem State.setCr_txBytes : (s.setCr v).txBytes = s.txBytes := rfl
@[simp] theorem State.setCr_localDma : (s.setCr v).localDma = s.localDma := rfl
@[simp] theorem State.setCr_numColl : (s.setCr v).numColl = s.numColl := rfl
@[simp] theorem State.setCr_fifo : (s.setCr v).fifo = s.fifo := rfl
@[simp] theorem State.setCr_tallycnt0 : (s.setCr v).tallycnt0 = s.tallycnt0 := rfl
@[simp] theorem State.setCr_tallycnt1 : (s.setCr v).tallycnt1 = s.tallycnt1 := rfl
@[simp] theorem State.setCr_tallycnt2 : (s.setCr v).tallycnt2 = s.tallycnt2 := rfl
@[simp] theorem State.setCr_physaddr : (s.setCr v).physaddr = s.physaddr := rfl
@[simp] theorem State.setCr_mchash : (s.setCr v).mchash = s.mchash := rfl
@[simp] theorem State.setCr_rempktPtr : (s.setCr v).rempktPtr = s.rempktPtr := rfl
@[simp] theorem State.setCr_localpktPtr : (s.setCr v).localpktPtr = s.localpktPtr := rfl
@[simp] theorem State.setCr_addressCnt : (s.setCr v).addressCnt = s.addressCnt := rfl
@[simp] theorem State.setCr_page3 : (s.setCr v).page3 = s.page3 := rfl
@[simp] theorem State.setCr_macaddr : (s.setCr v).macaddr = s.macaddr := rfl
@[simp] theorem State.setCr_mem : (s.setCr v).mem = s.mem := rfl
@[simp] theorem State.setCr_irqLevel : (s.setCr v).irqLevel = s.irqLevel := rfl
@[simp] theorem State.setCr_txPending : (s.setCr v).txPending = s.txPending := rfl
@[simp] theorem State.setCr_asserts : (s.setCr v).asserts = s.asserts := rfl
@[simp] theorem State.setCr_sent : (s.setCr v).sent = s.sent := rfl
@[simp] theorem State.setCr_inputs : (s.setCr v).inputs = s.inputs := rfl
@[simp] theorem State.setCr_readData : (s.setCr v).readData = s.readData := rfl
@[simp] theorem State.setCr_draws : (s.setCr v).draws = s.draws := rfl
end

section
variable (v : Isr)
@[simp] theorem State.setIsr_cfg : (s.setIsr v).cfg = s.cfg := rfl
@[simp] theorem State.setIsr_irqLine : (s.setIsr v).irqLine = s.irqLine := rfl
@[simp] theorem State.setIsr_cr : (s.setIsr v).cr = s.cr := rfl
@[simp] theorem State.setIsr_isr : (s.setIsr v).isr = v := rfl
@[simp] theorem State.setIsr_imr : (s.setIsr v).imr = s.imr := rfl
@[simp] theorem State.setIsr_dcr : (s.setIsr v).dcr = s.dcr := rfl
@[simp] theorem State.setIsr_tcr : (s.setIsr v).tcr = s.tcr := rfl
@[simp] theorem State.setIsr_tsr : (s.setIsr v).tsr = s.tsr := rfl
@[simp] theorem State.setIsr_rcr : (s.setIsr v).rcr = s.rcr := rfl
@[simp] theorem State.setIsr_rsr : (s.setIsr v).rsr = s.rsr := rfl
@[simp] theorem State.setIsr_pageStart : (s.setIsr v).pageStart = s.pageStart := rfl
@[simp] theorem State.setIsr_pageStop : (s.setIsr v).pageStop = s.pageStop := rfl
@[simp] theorem State.setIsr_boundPtr : (s.setIsr v).boundPtr = s.boundPtr := rfl
@[simp] theorem State.setIsr_currPage : (s.setIsr v).currPage = s.currPage := rfl
@[simp] theorem State.setIsr_remoteStart : (s.setIsr v).remoteStart = s.remoteStart := rfl
@[simp] theorem State.setIsr_remoteDma : (s.setIsr v).remoteDma = s.remoteDma := rfl
@[simp] theorem State.setIsr_remoteBytes : (s.setIsr v).remoteBytes = s.remoteBytes := rfl
@[simp] theorem State.setIsr_txPageStart : (s.setIsr v).txPageStart = s.txPageStart := rfl
@[simp] theorem State.setIsr_txBytes : (s.setIsr v).txBytes = s.txBytes := rfl
@[simp] theorem State.setIsr_localDma : (s.setIsr v).localDma = s.localDma := rfl
@[simp] theorem State.setIsr_numColl : (s.setIsr v).numColl = s.numColl := rfl
@[simp] theorem State.setIsr_fifo : (s.setIsr v).fifo = s.fifo := rfl
@[simp] theorem State.setIsr_tallycnt0 : (s.setIsr v).tallycnt0 = s.tallycnt0 := rfl
@[simp] theorem State.setIsr_tallycnt1 : (s.setIsr v).tallycnt1 = s.tallycnt1 := rfl
@[simp] theorem State.setIsr_tallycnt2 : (s.setIsr v).tallycnt2 = s.tallycnt2 := rfl
@[simp] theorem State.setIsr_physaddr : (s.setIsr v).physaddr = s.physaddr := rfl
@[simp] theorem State.setIsr_mchash : (s.setIsr v).mchash = s.mchash := rfl
@[simp] theorem State.setIsr_rempktPtr : (s.setIsr v).rempktPtr = s.rempktPtr := rfl
@[simp] theorem State.setIsr_localpktPtr : (s.setIsr v).localpktPtr = s.localpktPtr := rfl
@[simp] theorem State.setIsr_addressCnt : (s.setIsr v).addressCnt = s.addressCnt := rfl
@[simp] theorem State.setIsr_page3 : (s.setIsr v).page3 = s.page3 := rfl
@[simp] theorem State.setIsr_macaddr : (s.setIsr v).macaddr = s.macaddr := rfl
@[simp] theorem State.setIsr_mem : (s.setIsr v).mem = s.mem := rfl
@[simp] theorem State.setIsr_irqLevel : (s.setIsr v).irqLevel = s.irqLevel := rfl
@[simp] theorem State.setIsr_txPending : (s.setIsr v).txPending = s.txPending := rfl
@[simp] theorem State.setIsr_asserts : (s.setIsr v).asserts = s.asserts := rfl
@[simp] theorem State.setIsr_sent : (s.setIsr v).sent = s.sent := rfl
@[simp] theorem State.setIsr_inputs : (s.setIsr v).inputs = s.inputs := rfl
@[simp] theorem State.setIsr_readData : (s.setIsr v).readData = s.readData := rfl
@[simp] theorem State.setIsr_draws : (s.setIsr v).draws = s.draws := rfl
end

section
variable (v : Imr)
@[simp] theorem State.setImr_cfg : (s.setImr v).cfg = s.cfg := rfl
@[simp] theorem State.setImr_irqLine : (s.setImr v).irqLine = s.irqLine := rfl
@[simp] theorem State.setImr_cr : (s.setImr v).cr = s.cr := rfl
@[simp] theorem State.setImr_isr : (s.setImr v).isr = s.isr := rfl
@[simp] theorem State.setImr_imr : (s.setImr v).imr = v := rfl
@[simp] theorem State.setImr_dcr : (s.setImr v).dcr = s.dcr := rfl
@[simp] theorem State.setImr_tcr : (s.setImr v).tcr = s.tcr := rfl
@[simp] theorem State.setImr_tsr : (s.setImr v).tsr = s.tsr := rfl
@[simp] theorem State.setImr_rcr : (s.setImr v).rcr = s.rcr := rfl
@[simp] theorem State.setImr_rsr : (s.setImr v).rsr = s.rsr := rfl
@[simp] theorem State.setImr_pageStart : (s.setImr v).pageStart = s.pageStart := rfl
@[simp] theorem State.setImr_pageStop : (s.setImr v).pageStop = s.pageStop := rfl
@[simp] theorem State.setImr_boundPtr : (s.setImr v).boundPtr = s.boundPtr := rfl
@[simp] theorem State.setImr_currPage : (s.setImr v).currPage = s.currPage := rfl
@[simp] theorem State.setImr_remoteStart : (s.setImr v).remoteStart = s.remoteStart := rfl
@[simp] theorem State.setImr_remoteDma : (s.setImr v).remoteDma = s.remoteDma := rfl
@[simp] theorem State.setImr_remoteBytes : (s.setImr v).remoteBytes = s.remoteBytes := rfl
@[simp] theorem State.setImr_txPageStart : (s.setImr v).txPageStart = s.txPageStart := rfl
@[simp] theorem State.setImr_txBytes : (s.setImr v).txBytes = s.txBytes := rfl
@[simp] theorem State.setImr_localDma : (s.setImr v).localDma = s.localDma := rfl
@[simp] theorem State.setImr_numColl : (s.setImr v).numColl = s.numColl := rfl
@[simp] theorem State.setImr_fifo : (s.setImr v).fifo = s.fifo := rfl
@[simp] theorem State.setImr_tallycnt0 : (s.setImr v).tallycnt0 = s.tallycnt0 := rfl
@[simp] theorem State.setImr_tallycnt1 : (s.setImr v).tallycnt1 = s.tallycnt1 := rfl
@[simp] theorem State.setImr_tallycnt2 : (s.setImr v).tallycnt2 = s.tallycnt2 := rfl
@[simp] theorem State.setImr_physaddr : (s.setImr v).physaddr = s.physaddr := rfl
@[simp] theorem State.setImr_mchash : (s.setImr v).mchash = s.mchash := rfl
@[simp] theorem State.setImr_rempktPtr : (s.setImr v).rempktPtr = s.rempktPtr := rfl
@[simp] theorem State.setImr_localpktPtr : (s.setImr v).localpktPtr = s.localpktPtr := rfl
@[simp] theorem State.setImr_addressCnt : (s.setImr v).addressCnt = s.addressCnt := rfl
@[simp] theorem State.setImr_page3 : (s.setImr v).page3 = s.page3 := rfl
@[simp] theorem State.setImr_macaddr : (s.setImr v).macaddr = s.macaddr := rfl
@[simp] theorem State.setImr_mem : (s.setImr v).mem = s.mem := rfl
@[simp] theorem State.setImr_irqLevel : (s.setImr v).irqLevel = s.irqLevel := rfl
@[simp] theorem State.setImr_txPending : (s.setImr v).txPending = s.txPending := rfl
@[simp] theorem State.setImr_asserts : (s.setImr v).asserts = s.asserts := rfl
@[simp] theorem State.setImr_sent : (s.setImr v).sent = s.sent := rfl
@[simp] theorem State.setImr_inputs : (s.setImr v).inputs = s.inputs := rfl
@[simp] theorem State.setImr_readData : (s.setImr v).readData = s.readData := rfl
@[simp] theorem State.setImr_draws : (s.setImr v).draws = s.draws := rfl
end

section
variable (v : Dcr)
@[simp] theorem State.setDcr_cfg : (s.setDcr v).cfg = s.cfg := rfl
@[simp] theorem State.setDcr_irqLine : (s.setDcr v).irqLine = s.irqLine := rfl
@[simp] theorem State.setDcr_cr : (s.setDcr v).cr = s.cr := rfl
@[simp] theorem State.setDcr_isr : (s.setDcr v).isr = s.isr := rfl
@[simp] theorem State.setDcr_imr : (s.setDcr v).imr = s.imr := rfl
@[simp] theorem State.setDcr_dcr : (s.setDcr v).dcr = v := rfl
@[simp] theorem State.setDcr_tcr : (s.setDcr v).tcr = s.tcr := rfl
@[simp] theorem State.setDcr_tsr : (s.setDcr v).tsr = s.tsr := rfl
@[simp] theorem State.setDcr_rcr : (s.setDcr v).rcr = s.rcr := rfl
@[simp] theorem State.setDcr_rsr : (s.setDcr v).rsr = s.rsr := rfl
@[simp] theorem State.setDcr_pageStart : (s.setDcr v).pageStart = s.pageStart := rfl
@[simp] theorem State.setDcr_pageStop : (s.setDcr v).pageStop = s.pageStop := rfl
@[simp] theorem State.setDcr_boundPtr : (s.setDcr v).boundPtr = s.boundPtr := rfl
@[simp] theorem State.setDcr_currPage : (s.setDcr v).currPage = s.currPage := rfl
@[simp] theorem State.setDcr_remoteStart : (s.setDcr v).remoteStart = s.remoteStart := rfl
@[simp] theorem State.setDcr_remoteDma : (s.setDcr v).remoteDma = s.remoteDma := rfl
@[simp] theorem State.setDcr_remoteBytes : (s.setDcr v).remoteBytes = s.remoteBytes := rfl
@[simp] theorem State.setDcr_txPageStart : (s.setDcr v).txPageStart = s.txPageStart := rfl
@[simp] theorem State.setDcr_txBytes : (s.setDcr v).txBytes = s.txBytes := rfl
@[simp] theorem State.setDcr_localDma : (s.setDcr v).localDma = s.localDma := rfl
@[simp] theorem State.setDcr_numColl : (s.setDcr v).numColl = s.numColl := rfl
@[simp] theorem State.setDcr_fifo : (s.setDcr v).fifo = s.fifo := rfl
@[simp] theorem State.setDcr_tallycnt0 : (s.setDcr v).tallycnt0 = s.tallycnt0 := rfl
@[simp] theorem State.setDcr_tallycnt1 : (s.setDcr v).tallycnt1 = s.tallycnt1 := rfl
@[simp] theorem State.setDcr_tallycnt2 : (s.setDcr v).tallycnt2 = s.tallycnt2 := rfl
@[simp] theorem State.setDcr_physaddr : (s.setDcr v).physaddr = s.physaddr := rfl
@[simp] theorem State.setDcr_mchash : (s.setDcr v).mchash = s.mchash := rfl
@[simp] theorem State.setDcr_rempktPtr : (s.setDcr v).rempktPtr = s.rempktPtr := rfl
@[simp] theorem State.setDcr_localpktPtr : (s.setDcr v).localpktPtr = s.localpktPtr := rfl
@[simp] theorem State.setDcr_addressCnt : (s.setDcr v).addressCnt = s.addressCnt := rfl
@[simp] theorem State.setDcr_page3 : (s.setDcr v).page3 = s.page3 := rfl
@[simp] theorem State.setDcr_macaddr : (s.setDcr v).macaddr = s.macaddr := rfl
@[simp] theorem State.setDcr_mem : (s.setDcr v).mem = s.mem := rfl
@[simp] theorem State.setDcr_irqLevel : (s.setDcr v).irqLevel = s.irqLevel := rfl
@[simp] theorem State.setDcr_txPending : (s.setDcr v).txPending = s.txPending := rfl
@[simp] theorem State.setDcr_asserts : (s.setDcr v).asserts = s.asserts := rfl
@[simp] theorem State.setDcr_sent : (s.setDcr v).sent = s.sent := rfl
@[simp] theorem State.setDcr_inputs : (s.setDcr v).inputs = s.inputs := rfl
@[simp] theorem State.setDcr_readData : (s.setDcr v).readData = s.readData := rfl
@[simp] theorem State.setDcr_draws : (s.setDcr v).draws = s.draws := rfl
end

section
variable (v : Tcr)
@[simp] theorem State.setTcr_cfg : (s.setTcr v).cfg = s.cfg := rfl
@[simp] theorem State.setTcr_irqLine : (s.setTcr v).irqLine = s.irqLine := rfl
@[simp] theorem State.setTcr_cr : (s.setTcr v).cr = s.cr := rfl
@[simp] theorem State.setTcr_isr : (s.setTcr v).isr = s.isr := rfl
@[simp] theorem State.setTcr_imr : (s.setTcr v).imr = s.imr := rfl
@[simp] theorem State.setTcr_dcr : (s.setTcr v).dcr = s.dcr := rfl
@[simp] theorem State.setTcr_tcr : (s.setTcr v).tcr = v := rfl
@[simp] theorem State.setTcr_tsr : (s.setTcr v).tsr = s.tsr := rfl
@[simp] theorem State.setTcr_rcr : (s.setTcr v).rcr = s.rcr := rfl
@[simp] theorem State.setTcr_rsr : (s.setTcr v).rsr = s.rsr := rfl
@[simp] theorem State.setTcr_pageStart : (s.setTcr v).pageStart = s.pageStart := rfl
@[simp] theorem State.setTcr_pageStop : (s.setTcr v).pageStop = s.pageStop := rfl
@[simp] theorem State.setTcr_boundPtr : (s.setTcr v).boundPtr = s.boundPtr := rfl
@[simp] theorem State.setTcr_currPage : (s.setTcr v).currPage = s.currPage := rfl
@[simp] theorem State.setTcr_remoteStart : (s.setTcr v).remoteStart = s.remoteStart := rfl
@[simp] theorem State.setTcr_remoteDma : (s.setTcr v).remoteDma = s.remoteDma := rfl
@[simp] theorem State.setTcr_remoteBytes : (s.setTcr v).remoteBytes = s.remoteBytes := rfl
@[simp] theorem State.setTcr_txPageStart : (s.setTcr v).txPageStart = s.txPageStart := rfl
@[simp] theorem State.setTcr_txBytes : (s.setTcr v).txBytes = s.txBytes := rfl
@[simp] theorem State.setTcr_localDma : (s.setTcr v).localDma = s.localDma := rfl
@[simp] theorem State.setTcr_numColl : (s.setTcr v).numColl = s.numColl := rfl
@[simp] theorem State.setTcr_fifo : (s.setTcr v).fifo = s.fifo := rfl
@[simp] theorem State.setTcr_tallycnt0 : (s.setTcr v).tallycnt0 = s.tallycnt0 := rfl
@[simp] theorem State.setTcr_tallycnt1 : (s.setTcr v).tallycnt1 = s.tallycnt1 := rfl
@[simp] theorem State.setTcr_tallycnt2 : (s.setTcr v).tallycnt2 = s.tallycnt2 := rfl
@[simp] theorem State.setTcr_physaddr : (s.setTcr v).physaddr = s.physaddr := rfl
@[simp] theorem State.setTcr_mchash : (s.setTcr v).mchash = s.mchash := rfl
@[simp] theorem State.setTcr_rempktPtr : (s.setTcr v).rempktPtr = s.rempktPtr := rfl
@[simp] theorem State.setTcr_localpktPtr : (s.setTcr v).localpktPtr = s.localpktPtr := rfl
@[simp] theorem State.setTcr_addressCnt : (s.setTcr v).addressCnt = s.addressCnt := rfl
@[simp] theorem State.setTcr_page3 : (s.setTcr v).page3 = s.page3 := rfl
@[simp] theorem State.setTcr_macaddr : (s.setTcr v).macaddr = s.macaddr := rfl
@[simp] theorem State.setTcr_mem : (s.setTcr v).mem = s.mem := rfl
@[simp] theorem State.setTcr_irqLevel : (s.setTcr v).irqLevel = s.irqLevel := rfl
@[simp] theorem State.setTcr_txPending : (s.setTcr v).txPending = s.txPending := rfl
@[simp] theorem State.setTcr_asserts : (s.setTcr v).asserts = s.asserts := rfl
@[simp] theorem State.setTcr_sent : (s.setTcr v).sent = s.sent := rfl
@[simp] theorem State.setTcr_inputs : (s.setTcr v).inputs = s.inputs := rfl
@[simp] theorem State.setTcr_readData : (s.setTcr v).readData = s.readData := rfl
@[simp] theorem State.setTcr_draws : (s.setTcr v).draws = s.draws := rfl
end

section
variable (v : Tsr)
@[simp] theorem State.setTsr_cfg : (s.setTsr v).cfg = s.cfg := rfl
@[simp] theorem State.setTsr_irqLine : (s.setTsr v).irqLine = s.irqLine := rfl
@[simp] theorem State.setTsr_cr : (s.setTsr v).cr = s.cr := rfl
@[simp] theorem State.setTsr_isr : (s.setTsr v).isr = s.isr := rfl
@[simp] theorem State.setTsr_imr : (s.setTsr v).imr = s.imr := rfl
@[simp] theorem State.setTsr_dcr : (s.setTsr v).dcr = s.dcr := rfl
@[simp] theorem State.setTsr_tcr : (s.setTsr v).tcr = s.tcr := rfl
@[simp] theorem State.setTsr_tsr : (s.setTsr v).tsr = v := rfl
@[simp] theorem State.setTsr_rcr : (s.setTsr v).rcr = s.rcr := rfl
@[simp] theorem State.setTsr_rsr : (s.setTsr v).rsr = s.rsr := rfl
@[simp] theorem State.setTsr_pageStart : (s.setTsr v).pageStart = s.pageStart := rfl
@[simp] theorem State.setTsr_pageStop : (s.setTsr v).pageStop = s.pageStop := rfl
@[simp] theorem State.setTsr_boundPtr : (s.setTsr v).boundPtr = s.boundPtr := rfl
@[simp] theorem State.setTsr_currPage : (s.setTsr v).currPage = s.currPage := rfl
@[simp] theorem State.setTsr_remoteStart : (s.setTsr v).remoteStart = s.remoteStart := rfl
@[simp] theorem State.setTsr_remoteDma : (s.setTsr v).remoteDma = s.remoteDma := rfl
@[simp] theorem State.setTsr_remoteBytes : (s.setTsr v).remoteBytes = s.remoteBytes := rfl
@[simp] theorem State.setTsr_txPageStart : (s.setTsr v).txPageStart = s.txPageStart := rfl
@[simp] theorem State.setTsr_txBytes : (s.setTsr v).txBytes = s.txBytes := rfl
@[simp] theorem State.setTsr_localDma : (s.setTsr v).localDma = s.localDma := rfl
@[simp] theorem State.setTsr_numColl : (s.setTsr v).numColl = s.numColl := rfl
@[simp] theorem State.setTsr_fifo : (s.setTsr v).fifo = s.fifo := rfl
@[simp] theorem State.setTsr_tallycnt0 : (s.setTsr v).tallycnt0 = s.tallycnt0 := rfl
@[simp] theorem State.setTsr_tallycnt1 : (s.setTsr v).tallycnt1 = s.tallycnt1 := rfl
@[simp] theorem State.setTsr_tallycnt2 : (s.setTsr v).tallycnt2 = s.tallycnt2 := rfl
@[simp] theorem State.setTsr_physaddr : (s.setTsr v).physaddr = s.physaddr := rfl
@[simp] theorem State.setTsr_mchash : (s.setTsr v).mchash = s.mchash := rfl
@[simp] theorem State.setTsr_rempktPtr : (s.setTsr v).rempktPtr = s.rempktPtr := rfl
@[simp] theorem State.setTsr_localpktPtr : (s.setTsr v).localpktPtr = s.localpktPtr := rfl
@[simp] theorem State.setTsr_addressCnt : (s.setTsr v).addressCnt = s.addressCnt := rfl
@[simp] theorem State.setTsr_page3 : (s.setTsr v).page3 = s.page3 := rfl
@[simp] theorem State.setTsr_macaddr : (s.setTsr v).macaddr = s.macaddr := rfl
@[simp] theorem State.setTsr_mem : (s.setTsr v).mem = s.mem := rfl
@[simp] theorem State.setTsr_irqLevel : (s.setTsr v).irqLevel = s.irqLevel := rfl
@[simp] theorem State.setTsr_txPending : (s.setTsr v).txPending = s.txPending := rfl
@[simp] theorem State.setTsr_asserts : (s.setTsr v).asserts = s.asserts := rfl
@[simp] theorem State.setTsr_sent : (s.setTsr v).sent = s.sent := rfl
@[simp] theorem State.setTsr_inputs : (s.setTsr v).inputs = s.inputs := rfl
@[simp] theorem State.setTsr_readData : (s.setTsr v).readData = s.readData := rfl
@[simp] theorem State.setTsr_draws : (s.setTsr v).draws = s.draws := rfl
end

section
variable (v : Rcr)
@[simp] theorem State.setRcr_cfg : (s.setRcr v).cfg = s.cfg := rfl
@[simp] theorem State.setRcr_irqLine : (s.setRcr v).irqLine = s.irqLine := rfl
@[simp] theorem State.setRcr_cr : (s.setRcr v).cr = s.cr := rfl
@[simp] theorem State.setRcr_isr : (s.setRcr v).isr = s.isr := rfl
@[simp] theorem State.setRcr_imr : (s.setRcr v).imr = s.imr := rfl
@[simp] theorem State.setRcr_dcr : (s.setRcr v).dcr = s.dcr := rfl
@[simp] theorem State.setRcr_tcr : (s.setRcr v).tcr = s.tcr := rfl
@[simp] theorem State.setRcr_tsr : (s.setRcr v).tsr = s.tsr := rfl
@[simp] theorem State.setRcr_rcr : (s.setRcr v).rcr = v := rfl
@[simp] theorem State.setRcr_rsr : (s.setRcr v).rsr = s.rsr := rfl
@[simp] theorem State.setRcr_pageStart : (s.setRcr v).pageStart = s.pageStart := rfl
@[simp] theorem State.setRcr_pageStop : (s.setRcr v).pageStop = s.pageStop := rfl
@[simp] theorem State.setRcr_boundPtr : (s.setRcr v).boundPtr = s.boundPtr := rfl
@[simp] theorem State.setRcr_currPage : (s.setRcr v).currPage = s.currPage := rfl
@[simp] theorem State.setRcr_remoteStart : (s.setRcr v).remoteStart = s.remoteStart := rfl
@[simp] theorem State.setRcr_remoteDma : (s.setRcr v).remoteDma = s.remoteDma := rfl
@[simp] theorem State.setRcr_remoteBytes : (s.setRcr v).remoteBytes = s.remoteBytes := rfl
@[simp] theorem State.setRcr_txPageStart : (s.setRcr v).txPageStart = s.txPageStart := rfl
@[simp] theorem State.setRcr_txBytes : (s.setRcr v).txBytes = s.txBytes := rfl
@[simp] theorem State.setRcr_localDma : (s.setRcr v).localDma = s.localDma := rfl
@[simp] theorem State.setRcr_numColl : (s.setRcr v).numColl = s.numColl := rfl
@[simp] theorem State.setRcr_fifo : (s.setRcr v).fifo = s.fifo := rfl
@[simp] theorem State.setRcr_tallycnt0 : (s.setRcr v).tallycnt0 = s.tallycnt0 := rfl
@[simp] theorem State.setRcr_tallycnt1 : (s.setRcr v).tallycnt1 = s.tallycnt1 := rfl
@[simp] theorem State.setRcr_tallycnt2 : (s.setRcr v).tallycnt2 = s.tallycnt2 := rfl
@[simp] theorem State.setRcr_physaddr : (s.setRcr v).physaddr = s.physaddr := rfl
@[simp] theorem State.setRcr_mchash : (s.setRcr v).mchash = s.mchash := rfl
@[simp] theorem State.setRcr_rempktPtr : (s.setRcr v).rempktPtr = s.rempktPtr := rfl
@[simp] theorem State.setRcr_localpktPtr : (s.setRcr v).localpktPtr = s.localpktPtr := rfl
@[simp] theorem State.setRcr_addressCnt : (s.setRcr v).addressCnt = s.addressCnt := rfl
@[simp] theorem State.setRcr_page3 : (s.setRcr v).page3 = s.page3 := rfl
@[simp] theorem State.setRcr_macaddr : (s.setRcr v).macaddr = s.macaddr := rfl
@[simp] theorem State.setRcr_mem : (s.setRcr v).mem = s.mem := rfl
@[simp] theorem State.setRcr_irqLevel : (s.setRcr v).irqLevel = s.irqLevel := rfl
@[simp] theorem State.setRcr_txPending : (s.setRcr v).txPending = s.txPending := rfl
@[simp] theorem State.setRcr_asserts : (s.setRcr v).asserts = s.asserts := rfl
@[simp] theorem State.setRcr_sent : (s.setRcr v).sent = s.sent := rfl
@[simp] theorem State.setRcr_inputs : (s.setRcr v).inputs = s.inputs := rfl
@[simp] theorem State.setRcr_readData : (s.setRcr v).readData = s.readData := rfl
@[simp] theorem State.setRcr_draws : (s.setRcr v).draws = s.draws := rfl
end

section
variable (v : Rsr)
@[simp] theorem State.setRsr_cfg : (s.setRsr v).cfg = s.cfg := rfl
@[simp] theorem State.setRsr_irqLine : (s.setRsr v).irqLine = s.irqLine := rfl
@[simp] theorem State.setRsr_cr : (s.setRsr v).cr = s.cr := rfl
@[simp] theorem State.setRsr_isr : (s.setRsr v).isr = s.isr := rfl
@[simp] theorem State.setRsr_imr : (s.setRsr v).imr = s.imr := rfl
@[simp] theorem State.setRsr_dcr : (s.setRsr v).dcr = s.dcr := rfl
@[simp] theorem State.setRsr_tcr : (s.setRsr v).tcr = s.tcr := rfl
@[simp] theorem State.setRsr_tsr : (s.setRsr v).tsr = s.tsr := rfl
@[simp] theorem State.setRsr_rcr : (s.setRsr v).rcr = s.rcr := rfl
@[simp] theorem State.setRsr_rsr : (s.setRsr v).rsr = v := rfl
@[simp] theorem State.setRsr_pageStart : (s.setRsr v).pageStart = s.pageStart := rfl
@[simp] theorem State.setRsr_pageStop : (s.setRsr v).pageStop = s.pageStop := rfl
@[simp] theorem State.setRsr_boundPtr : (s.setRsr v).boundPtr = s.boundPtr := rfl
@[simp] theorem State.setRsr_currPage : (s.setRsr v).currPage = s.currPage := rfl
@[simp] theorem State.setRsr_remoteStart : (s.setRsr v).remoteStart = s.remoteStart := rfl
@[simp] theorem State.setRsr_remoteDma : (s.setRsr v).remoteDma = s.remoteDma := rfl
@[simp] theorem State.setRsr_remoteBytes : (s.setRsr v).remoteBytes = s.remoteBytes := rfl
@[simp] theorem State.setRsr_txPageStart : (s.setRsr v).txPageStart = s.txPageStart := rfl
@[simp] theorem State.setRsr_txBytes : (s.setRsr v).txBytes = s.txBytes := rfl
@[simp] theorem State.setRsr_localDma : (s.setRsr v).localDma = s.localDma := rfl
@[simp] theorem State.setRsr_numColl : (s.setRsr v).numColl = s.numColl := rfl
@[simp] theorem State.setRsr_fifo : (s.setRsr v).fifo = s.fifo := rfl
@[simp] theorem State.setRsr_tallycnt0 : (s.setRsr v).tallycnt0 = s.tallycnt0 := rfl
@[simp] theorem State.setRsr_tallycnt1 : (s.setRsr v).tallycnt1 = s.tallycnt1 := rfl
@[simp] theorem State.setRsr_tallycnt2 : (s.setRsr v).tallycnt2 = s.tallycnt2 := rfl
@[simp] theorem State.setRsr_physaddr : (s.setRsr v).physaddr = s.physaddr := rfl
@[simp] theorem State.setRsr_mchash : (s.setRsr v).mchash = s.mchash := rfl
@[simp] theorem State.setRsr_rempktPtr : (s.setRsr v).rempktPtr = s.rempktPtr := rfl
@[simp] theorem State.setRsr_localpktPtr : (s.setRsr v).localpktPtr = s.localpktPtr := rfl
@[simp] theorem State.setRsr_addressCnt : (s.setRsr v).addressCnt = s.addressCnt := rfl
@[simp] theorem State.setRsr_page3 : (s.setRsr v).page3 = s.page3 := rfl
@[simp] theorem State.setRsr_macaddr : (s.setRsr v).macaddr = s.macaddr := rfl
@[simp] theorem State.setRsr_mem : (s.setRsr v).mem = s.mem := rfl
@[simp] theorem State.setRsr_irqLevel : (s.setRsr v).irqLevel = s.irqLevel := rfl
@[simp] theorem State.setRsr_txPending : (s.setRsr v).txPending = s.txPending := rfl
@[simp] theorem State.setRsr_asserts : (s.setRsr v).asserts = s.asserts := rfl
@[simp] theorem State.setRsr_sent : (s.setRsr v).sent = s.sent := rfl
@[simp] theorem State.setRsr_inputs : (s.setRsr v).inputs = s.inputs := rfl
@[simp] theorem State.setRsr_readData : (s.setRsr v).readData = s.readData := rfl
@[simp] theorem State.setRsr_draws : (s.setRsr v).draws = s.draws := rfl
end

section
variable (v : Byte)
@[simp] theorem State.setPageStart_cfg : (s.setPageStart v).cfg = s.cfg := rfl
@[simp] theorem State.setPageStart_irqLine : (s.setPageStart v).irqLine = s.irqLine := rfl
@[simp] theorem State.setPageStart_cr : (s.setPageStart v).cr = s.cr := rfl
@[simp] theorem State.setPageStart_isr : (s.setPageStart v).isr = s.isr := rfl
@[simp] theorem State.setPageStart_imr : (s.setPageStart v).imr = s.imr := rfl
@[simp] theorem State.setPageStart_dcr : (s.setPageStart v).dcr = s.dcr := rfl
@[simp] theorem State.setPageStart_tcr : (s.setPageStart v).tcr = s.tcr := rfl
@[simp] theorem State.setPageStart_tsr : (s.setPageStart v).tsr = s.tsr := rfl
@[simp] theorem State.setPageStart_rcr : (s.setPageStart v).rcr = s.rcr := rfl
@[simp] theorem State.setPageStart_rsr : (s.setPageStart v).rsr = s.rsr := rfl
@[simp] theorem State.setPageStart_pageStart : (s.setPageStart v).pageStart = v := rfl
@[simp] theorem State.setPageStart_pageStop : (s.setPageStart v).pageStop = s.pageStop := rfl
@[simp] theorem State.setPageStart_boundPtr : (s.setPageStart v).boundPtr = s.boundPtr := rfl
@[simp] theorem State.setPageStart_currPage : (s.setPageStart v).currPage = s.currPage := rfl
@[simp] theorem State.setPageStart_remoteStart : (s.setPageStart v).remoteStart = s.remoteStart := rfl
@[simp] theorem State.setPageStart_remoteDma : (s.setPageStart v).remoteDma = s.remoteDma := rfl
@[simp] theorem State.setPageStart_remoteBytes : (s.setPageStart v).remoteBytes = s.remoteBytes := rfl
@[simp] theorem State.setPageStart_txPageStart : (s.setPageStart v).txPageStart = s.txPageStart := rfl
@[simp] theorem State.setPageStart_txBytes : (s.setPageStart v).txBytes = s.txBytes := rfl
@[simp] theorem State.setPageStart_localDma : (s.setPageStart v).localDma = s.localDma := rfl
@[simp] theorem State.setPageStart_numColl : (s.setPageStart v).numColl = s.numColl := rfl
@[simp] theorem State.setPageStart_fifo : (s.setPageStart v).fifo = s.fifo := rfl
@[simp] theorem State.setPageStart_tallycnt0 : (s.setPageStart v).tallycnt0 = s.tallycnt0 := rfl
@[simp] theorem State.setPageStart_tallycnt1 : (s.setPageStart v).tallycnt1 = s.tallycnt1 := rfl
@[simp] theorem State.setPageStart_tallycnt2 : (s.setPageStart v).tallycnt2 = s.tallycnt2 := rfl
@[simp] theorem State.setPageStart_physaddr : (s.setPageStart v).physaddr = s.physaddr := rfl
@[simp] theorem State.setPageStart_mchash : (s.setPageStart v).mchash = s.mchash := rfl
@[simp] theorem State.setPageStart_rempktPtr : (s.setPageStart v).rempktPtr = s.rempktPtr := rfl
@[simp] theorem State.setPageStart_localpktPtr : (s.setPageStart v).localpktPtr = s.localpktPtr := rfl
@[simp] theorem State.setPageStart_addressCnt : (s.setPageStart v).addressCnt = s.addressCnt := rfl
@[simp] theorem State.setPageStart_page3 : (s.setPageStart v).page3 = s.page3 := rfl
@[simp] theorem State.setPageStart_macaddr : (s.setPageStart v).macaddr = s.macaddr := rfl
@[simp] theorem State.setPageStart_mem : (s.setPageStart v).mem = s.mem := rfl
@[simp] theorem State.setPageStart_irqLevel : (s.setPageStart v).irqLevel = s.irqLevel := rfl
@[simp] theorem State.setPageStart_txPending : (s.setPageStart v).txPending = s.txPending := rfl
@[simp] theorem State.setPageStart_asserts : (s.setPageStart v).asserts = s.asserts := rfl
@[simp] theorem State.setPageStart_sent : (s.setPageStart v).sent = s.sent := rfl
@[simp] theorem State.setPageStart_inputs : (s.setPageStart v).inputs = s.inputs := rfl
@[simp] theorem State.setPageStart_readData : (s.setPageStart v).readData = s.readData := rfl
@[simp] theorem State.setPageStart_draws : (s.setPageStart v).draws = s.draws := rfl
end

section
variable (v : Byte)
@[simp] theorem State.setPageStop_cfg : (s.setPageStop v).cfg = s.cfg := rfl
@[simp] theorem State.setPageStop_irqLine : (s.setPageStop v).irqLine = s.irqLine := rfl
@[simp] theorem State.setPageStop_cr : (s.setPageStop v).cr = s.cr := rfl
@[simp] theorem State.setPageStop_isr : (s.setPageStop v).isr = s.isr := rfl
@[simp] theorem State.setPageStop_imr : (s.setPageStop v).imr = s.imr := rfl
@[simp] theorem State.setPageStop_dcr : (s.setPageStop v).dcr = s.dcr := rfl
@[simp] theorem State.setPageStop_tcr : (s.setPageStop v).tcr = s.tcr := rfl
@[simp] theorem State.setPageStop_tsr : (s.setPageStop v).tsr = s.tsr := rfl
@[simp] theorem State.setPageStop_rcr : (s.setPageStop v).rcr = s.rcr := rfl
@[simp] theorem State.setPageStop_rsr : (s.setPageStop v).rsr = s.rsr := rfl
@[simp] theorem State.setPageStop_pageStart : (s.setPageStop v).pageStart = s.pageStart := rfl
@[simp] theorem State.setPageStop_pageStop : (s.setPageStop v).pageStop = v := rfl
@[simp] theorem State.setPageStop_boundPtr : (s.setPageStop v).boundPtr = s.boundPtr := rfl
@[simp] theorem State.setPageStop_currPage : (s.setPageStop v).currPage = s.currPage := rfl
@[simp] theorem State.setPageStop_remoteStart : (s.setPageStop v).remoteStart = s.remoteStart := rfl
@[simp] theorem State.setPageStop_remoteDma : (s.setPageStop v).remoteDma = s.remoteDma := rfl
@[simp] theorem State.setPageStop_remoteBytes : (s.setPageStop v).remoteBytes = s.remoteBytes := rfl
@[simp] theorem State.setPageStop_txPageStart : (s.setPageStop v).txPageStart = s.txPageStart := rfl
@[simp] theorem State.setPageStop_txBytes : (s.setPageStop v).txBytes = s.txBytes := rfl
@[simp] theorem State.setPageStop_localDma : (s.setPageStop v).localDma = s.localDma := rfl
@[simp] theorem State.setPageStop_numColl : (s.setPageStop v).numColl = s.numColl := rfl
@[simp] theorem State.setPageStop_fifo : (s.setPageStop v).fifo = s.fifo := rfl
@[simp] theorem State.setPageStop_tallycnt0 : (s.setPageStop v).tallycnt0 = s.tallycnt0 := rfl
@[simp] theorem State.setPageStop_tallycnt1 : (s.setPageStop v).tallycnt1 = s.tallycnt1 := rfl
@[simp] theorem State.setPageStop_tallycnt2 : (s.setPageStop v).tallycnt2 = s.tallycnt2 := rfl
@[simp] theorem State.setPageStop_physaddr : (s.setPageStop v).physaddr = s.physaddr := rfl
@[simp] theorem State.setPageStop_mchash : (s.setPageStop v).mchash = s.mchash := rfl
@[simp] theorem State.setPageStop_rempktPtr : (s.setPageStop v).rempktPtr = s.rempktPtr := rfl
@[simp] theorem State.setPageStop_localpktPtr : (s.setPageStop v).localpktPtr = s.localpktPtr := rfl
@[simp] theorem State.setPageStop_addressCnt : (s.setPageStop v).addressCnt = s.addressCnt := rfl
@[simp] theorem State.setPageStop_page3 : (s.setPageStop v).page3 = s.page3 := rfl
@[simp] theorem State.setPageStop_macaddr : (s.setPageStop v).macaddr = s.macaddr := rfl
@[simp] theorem State.setPageStop_mem : (s.setPageStop v).mem = s.mem := rfl
@[simp] theorem State.setPageStop_irqLevel : (s.setPageStop v).irqLevel = s.irqLevel := rfl
@[simp] theorem State.setPageStop_txPending : (s.setPageStop v).txPending = s.txPending := rfl
@[simp] theorem State.setPageStop_asserts : (s.setPageStop v).asserts = s.asserts := rfl
@[simp] theorem State.setPageStop_sent : (s.setPageStop v).sent = s.sent := rfl
@[simp] theorem State.setPageStop_inputs : (s.setPageStop v).inputs = s.inputs := rfl
@[simp] theorem State.setPageStop_readData : (s.setPageStop v).readData = s.readData := rfl
@[simp] theorem State.setPageStop_draws : (s.setPageStop v).draws = s.draws := rfl
end

section
variable (v : Byte)
@[simp] theorem State.setBoundPtr_cfg : (s.setBoundPtr v).cfg = s.cfg := rfl
@[simp] theorem State.setBoundPtr_irqLine : (s.setBoundPtr v).irqLine = s.irqLine := rfl
@[simp] theorem State.setBoundPtr_cr : (s.setBoundPtr v).cr = s.cr := rfl
@[simp] theorem State.setBoundPtr_isr : (s.setBoundPtr v).isr = s.isr := rfl
@[simp] theorem State.setBoundPtr_imr : (s.setBoundPtr v).imr = s.imr := rfl
@[simp] theorem State.setBoundPtr_dcr : (s.setBoundPtr v).dcr = s.dcr := rfl
@[simp] theorem State.setBoundPtr_tcr : (s.setBoundPtr v).tcr = s.tcr := rfl
@[simp] theorem State.setBoundPtr_tsr : (s.setBoundPtr v).tsr = s.tsr := rfl
@[simp] theorem State.setBoundPtr_rcr : (s.setBoundPtr v).rcr = s.rcr := rfl
@[simp] theorem State.setBoundPtr_rsr : (s.setBoundPtr v).rsr = s.rsr := rfl
@[simp] theorem State.setBoundPtr_pageStart : (s.setBoundPtr v).pageStart = s.pageStart := rfl
@[simp] theorem State.setBoundPtr_pageStop : (s.setBoundPtr v).pageStop = s.pageStop := rfl
@[simp] theorem State.setBoundPtr_boundPtr : (s.setBoundPtr v).boundPtr = v := rfl
@[simp] theorem State.setBoundPtr_currPage : (s.setBoundPtr v).currPage = s.currPage := rfl
@[simp] theorem State.setBoundPtr_remoteStart : (s.setBoundPtr v).remoteStart = s.remoteStart := rfl
@[simp] theorem State.setBoundPtr_remoteDma : (s.setBoundPtr v).remoteDma = s.remoteDma := rfl
@[simp] theorem State.setBoundPtr_remoteBytes : (s.setBoundPtr v).remoteBytes = s.remoteBytes := rfl
@[simp] theorem State.setBoundPtr_txPageStart : (s.setBoundPtr v).txPageStart = s.txPageStart := rfl
@[simp] theorem State.setBoundPtr_txBytes : (s.setBoundPtr v).txBytes = s.txBytes := rfl
@[simp] theorem State.setBoundPtr_localDma : (s.setBoundPtr v).localDma = s.localDma := rfl
@[simp] theorem State.setBoundPtr_numColl : (s.setBoundPtr v).numColl = s.numColl := rfl
@[simp] theorem State.setBoundPtr_fifo : (s.setBoundPtr v).fifo = s.fifo := rfl
@[simp] theorem State.setBoundPtr_tallycnt0 : (s.setBoundPtr v).tallycnt0 = s.tallycnt0 := rfl
@[simp] theorem State.setBoundPtr_tallycnt1 : (s.setBoundPtr v).tallycnt1 = s.tallycnt1 := rfl
@[simp] theorem State.setBoundPtr_tallycnt2 : (s.setBoundPtr v).tallycnt2 = s.tallycnt2 := rfl
@[simp] theorem State.setBoundPtr_physaddr : (s.setBoundPtr v).physaddr = s.physaddr := rfl
@[simp] theorem State.setBoundPtr_mchash : (s.setBoundPtr v).mchash = s.mchash := rfl
@[simp] theorem State.setBoundPtr_rempktPtr : (s.setBoundPtr v).rempktPtr = s.rempktPtr := rfl
@[simp] theorem State.setBoundPtr_localpktPtr : (s.setBoundPtr v).localpktPtr = s.localpktPtr := rfl
@[simp] theorem State.setBoundPtr_addressCnt : (s.setBoundPtr v).addressCnt = s.addressCnt := rfl
@[simp] theorem State.setBoundPtr_page3 : (s.setBoundPtr v).page3 = s.page3 := rfl
@[simp] theorem State.setBoundPtr_macaddr : (s.setBoundPtr v).macaddr = s.macaddr := rfl
@[simp] theorem State.setBoundPtr_mem : (s.setBoundPtr v).mem = s.mem := rfl
@[simp] theorem State.setBoundPtr_irqLevel : (s.setBoundPtr v).irqLevel = s.irqLevel := rfl
@[simp] theorem State.setBoundPtr_txPending : (s.setBoundPtr v).txPending = s.txPending := rfl
@[simp] theorem State.setBoundPtr_asserts : (s.setBoundPtr v).asserts = s.asserts := rfl
@[simp] theorem State.setBoundPtr_sent : (s.setBoundPtr v).sent = s.sent := rfl
@[simp] theorem State.setBoundPtr_inputs : (s.setBoundPtr v).inputs = s.inputs := rfl
@[simp] theorem State.setBoundPtr_readData : (s.setBoundPtr v).readData = s.readData := rfl
@[simp] theorem State.setBoundPtr_draws : (s.setBoundPtr v).draws = s.draws := rfl
end

section
variable (v : Byte)
@[simp] theorem State.setCurrPage_cfg : (s.setCurrPage v).cfg = s.cfg := rfl
@[simp] theorem State.setCurrPage_irqLine : (s.setCurrPage v).irqLine = s.irqLine := rfl
@[simp] theorem State.setCurrPage_cr : (s.setCurrPage v).cr = s.cr := rfl
@[simp] theorem State.setCurrPage_isr : (s.setCurrPage v).isr = s.isr := rfl
@[simp] theorem State.setCurrPage_imr : (s.setCurrPage v).imr = s.imr := rfl
@[simp] theorem State.setCurrPage_dcr : (s.setCurrPage v).dcr = s.dcr := rfl
@[simp] theorem State.setCurrPage_tcr : (s.setCurrPage v).tcr = s.tcr := rfl
@[simp] theorem State.setCurrPage_tsr : (s.setCurrPage v).tsr = s.tsr := rfl
@[simp] theorem State.setCurrPage_rcr : (s.setCurrPage v).rcr = s.rcr := rfl
@[simp] theorem State.setCurrPage_rsr : (s.setCurrPage v).rsr = s.rsr := rfl
@[simp] theorem State.setCurrPage_pageStart : (s.setCurrPage v).pageStart = s.pageStart := rfl
@[simp] theorem State.setCurrPage_pageStop : (s.setCurrPage v).pageStop = s.pageStop := rfl
@[simp] theorem State.setCurrPage_boundPtr : (s.setCurrPage v).boundPtr = s.boundPtr := rfl
@[simp] theorem State.setCurrPage_currPage : (s.setCurrPage v).currPage = v := rfl
@[simp] theorem State.setCurrPage_remoteStart : (s.setCurrPage v).remoteStart = s.remoteStart := rfl
@[simp] theorem State.setCurrPage_remoteDma : (s.setCurrPage v).remoteDma = s.remoteDma := rfl
@[simp] theorem State.setCurrPage_remoteBytes : (s.setCurrPage v).remoteBytes = s.remoteBytes := rfl
@[simp] theorem State.setCurrPage_txPageStart : (s.setCurrPage v).txPageStart = s.txPageStart := rfl
@[simp] theorem State.setCurrPage_txBytes : (s.setCurrPage v).txBytes = s.txBytes := rfl
@[simp] theorem State.setCurrPage_localDma : (s.setCurrPage v).localDma = s.localDma := rfl
@[simp] theorem State.setCurrPage_numColl : (s.setCurrPage v).numColl = s.numColl := rfl
@[simp] theorem State.setCurrPage_fifo : (s.setCurrPage v).fifo = s.fifo := rfl
@[simp] theorem State.setCurrPage_tallycnt0 : (s.setCurrPage v).tallycnt0 = s.tallycnt0 := rfl
@[simp] theorem State.setCurrPage_tallycnt1 : (s.setCurrPage v).tallycnt1 = s.tallycnt1 := rfl
@[simp] theorem State.setCurrPage_tallycnt2 : (s.setCurrPage v).tallycnt2 = s.tallycnt2 := rfl
@[simp] theorem State.setCurrPage_physaddr : (s.setCurrPage v).physaddr = s.physaddr := rfl
@[simp] theorem State.setCurrPage_mchash : (s.setCurrPage v).mchash = s.mchash := rfl
@[simp] theorem State.setCurrPage_rempktPtr : (s.setCurrPage v).rempktPtr = s.rempktPtr := rfl
@[simp] theorem State.setCurrPage_localpktPtr : (s.setCurrPage v).localpktPtr = s.localpktPtr := rfl
@[simp] theorem State.setCurrPage_addressCnt : (s.setCurrPage v).addressCnt = s.addressCnt := rfl
@[simp] theorem State.setCurrPage_page3 : (s.setCurrPage v).page3 = s.page3 := rfl
@[simp] theorem State.setCurrPage_macaddr : (s.setCurrPage v).macaddr = s.macaddr := rfl
@[simp] theorem State.setCurrPage_mem : (s.setCurrPage v).mem = s.mem := rfl
@[simp] theorem State.setCurrPage_irqLevel : (s.setCurrPage v).irqLevel = s.irqLevel := rfl
@[simp] theorem State.setCurrPage_txPending : (s.setCurrPage v).txPending = s.txPending := rfl
@[simp] theorem State.setCurrPage_asserts : (s.setCurrPage v).asserts = s.asserts := rfl
@[simp] theorem State.setCurrPage_sent : (s.setCurrPage v).sent = s.sent := rfl
@[simp] theorem State.setCurrPage_inputs : (s.setCurrPage v).inputs = s.inputs := rfl
@[simp] theorem State.setCurrPage_readData : (s.setCurrPage v).readData = s.readData := rfl
@[simp] theorem State.setCurrPage_draws : (s.setCurrPage v).draws = s.draws := rfl
end

section
variable (v : Word)
@[simp] theorem State.setRemoteStart_cfg : (s.setRemoteStart v).cfg = s.cfg := rfl
@[simp] theorem State.setRemoteStart_irqLine : (s.setRemoteStart v).irqLine = s.irqLine := rfl
@[simp] theorem State.setRemoteStart_cr : (s.setRemoteStart v).cr = s.cr := rfl
@[simp] theorem State.setRemoteStart_isr : (s.setRemoteStart v).isr = s.isr := rfl
@[simp] theorem State.setRemoteStart_imr : (s.setRemoteStart v).imr = s.imr := rfl
@[simp] theorem State.setRemoteStart_dcr : (s.setRemoteStart v).dcr = s.dcr := rfl
@[simp] theorem State.setRemoteStart_tcr : (s.setRemoteStart v).tcr = s.tcr := rfl
@[simp] theorem State.setRemoteStart_tsr : (s.setRemoteStart v).tsr = s.tsr := rfl
@[simp] theorem State.setRemoteStart_rcr : (s.setRemoteStart v).rcr = s.rcr := rfl
@[simp] theorem State.setRemoteStart_rsr : (s.setRemoteStart v).rsr = s.rsr := rfl
@[simp] theorem State.setRemoteStart_pageStart : (s.setRemoteStart v).pageStart = s.pageStart := rfl
@[simp] theorem State.setRemoteStart_pageStop : (s.setRemoteStart v).pageStop = s.pageStop := rfl
@[simp] theorem State.setRemoteStart_boundPtr : (s.setRemoteStart v).boundPtr = s.boundPtr := rfl
@[simp] theorem State.setRemoteStart_currPage : (s.setRemoteStart v).currPage = s.currPage := rfl
@[simp] theorem State.setRemoteStart_remoteStart : (s.setRemoteStart v).remoteStart = v := rfl
@[simp] theorem State.setRemoteStart_remoteDma : (s.setRemoteStart v).remoteDma = s.remoteDma := rfl
@[simp] theorem State.setRemoteStart_remoteBytes : (s.setRemoteStart v).remoteBytes = s.remoteBytes := rfl
@[simp] theorem State.setRemoteStart_txPageStart : (s.setRemoteStart v).txPageStart = s.txPageStart := rfl
@[simp] theorem State.setRemoteStart_txBytes : (s.setRemoteStart v).txBytes = s.txBytes := rfl
@[simp] theorem State.setRemoteStart_localDma : (s.setRemoteStart v).localDma = s.localDma := rfl
@[simp] theorem State.setRemoteStart_numColl : (s.setRemoteStart v).numColl = s.numColl := rfl
@[simp] theorem State.setRemoteStart_fifo : (s.setRemoteStart v).fifo = s.fifo := rfl
@[simp] theorem State.setRemoteStart_tallycnt0 : (s.setRemoteStart v).tallycnt0 = s.tallycnt0 := rfl
@[simp] theorem State.setRemoteStart_tallycnt1 : (s.setRemoteStart v).tallycnt1 = s.tallycnt1 := rfl
@[simp] theorem State.setRemoteStart_tallycnt2 : (s.setRemoteStart v).tallycnt2 = s.tallycnt2 := rfl
@[simp] theorem State.setRemoteStart_physaddr : (s.setRemoteStart v).physaddr = s.physaddr := rfl
@[simp] theorem State.setRemoteStart_mchash : (s.setRemoteStart v).mchash = s.mchash := rfl
@[simp] theorem State.setRemoteStart_rempktPtr : (s.setRemoteStart v).rempktPtr = s.rempktPtr := rfl
@[simp] theorem State.setRemoteStart_localpktPtr : (s.setRemoteStart v).localpktPtr = s.localpktPtr := rfl
@[simp] theorem State.setRemoteStart_addressCnt : (s.setRemoteStart v).addressCnt = s.addressCnt := rfl
@[simp] theorem State.setRemoteStart_page3 : (s.setRemoteStart v).page3 = s.page3 := rfl
@[simp] theorem State.setRemoteStart_macaddr : (s.setRemoteStart v).macaddr = s.macaddr := rfl
@[simp] theorem State.setRemoteStart_mem : (s.setRemoteStart v).mem = s.mem := rfl
@[simp] theorem State.setRemoteStart_irqLevel : (s.setRemoteStart v).irqLevel = s.irqLevel := rfl
@[simp] theorem State.setRemoteStart_txPending : (s.setRemoteStart v).txPending = s.txPending := rfl
@[simp] theorem State.setRemoteStart_asserts : (s.setRemoteStart v).asserts = s.asserts := rfl
@[simp] theorem State.setRemoteStart_sent : (s.setRemoteStart v).sent = s.sent := rfl
@[simp] theorem State.setRemoteStart_inputs : (s.setRemoteStart v).inputs = s.inputs := rfl
@[simp] theorem State.setRemoteStart_readData : (s.setRemoteStart v).readData = s.readData := rfl
@[simp] theorem State.setRemoteStart_draws : (s.setRemoteStart v).draws = s.draws := rfl
end

section
variable (v : Word)
@[simp] theorem State.setRemoteDma_cfg : (s.setRemoteDma v).cfg = s.cfg := rfl
@[simp] theorem State.setRemoteDma_irqLine : (s.setRemoteDma v).irqLine = s.irqLine := rfl
@[simp] theorem State.setRemoteDma_cr : (s.setRemoteDma v).cr = s.cr := rfl
@[simp] theorem State.setRemoteDma_isr : (s.setRemoteDma v).isr = s.isr := rfl
@[simp] theorem State.setRemoteDma_imr : (s.setRemoteDma v).imr = s.imr := rfl
@[simp] theorem State.setRemoteDma_dcr : (s.setRemoteDma v).dcr = s.dcr := rfl
@[simp] theorem State.setRemoteDma_tcr : (s.setRemoteDma v).tcr = s.tcr := rfl
@[simp] theorem State.setRemoteDma_tsr : (s.setRemoteDma v).tsr = s.tsr := rfl
@[simp] theorem State.setRemoteDma_rcr : (s.setRemoteDma v).rcr = s.rcr := rfl
@[simp] theorem State.setRemoteDma_rsr : (s.setRemoteDma v).rsr = s.rsr := rfl
@[simp] theorem State.setRemoteDma_pageStart : (s.setRemoteDma v).pageStart = s.pageStart := rfl
@[simp] theorem State.setRemoteDma_pageStop : (s.setRemoteDma v).pageStop = s.pageStop := rfl
@[simp] theorem State.setRemoteDma_boundPtr : (s.setRemoteDma v).boundPtr = s.boundPtr := rfl
@[simp] theorem State.setRemoteDma_currPage : (s.setRemoteDma v).currPage = s.currPage := rfl
@[simp] theorem State.setRemoteDma_remoteStart : (s.setRemoteDma v).remoteStart = s.remoteStart := rfl
@[simp] theorem State.setRemoteDma_remoteDma : (s.setRemoteDma v).remoteDma = v := rfl
@[simp] theorem State.setRemoteDma_remoteBytes : (s.setRemoteDma v).remoteBytes = s.remoteBytes := rfl
@[simp] theorem State.setRemoteDma_txPageStart : (s.setRemoteDma v).txPageStart = s.txPageStart := rfl
@[simp] theorem State.setRemoteDma_txBytes : (s.setRemoteDma v).txBytes = s.txBytes := rfl
@[simp] theorem State.setRemoteDma_localDma : (s.setRemoteDma v).localDma = s.localDma := rfl
@[simp] theorem State.setRemoteDma_numColl : (s.setRemoteDma v).numColl = s.numColl := rfl
@[simp] theorem State.setRemoteDma_fifo : (s.setRemoteDma v).fifo = s.fifo := rfl
@[simp] theorem State.setRemoteDma_tallycnt0 : (s.setRemoteDma v).tallycnt0 = s.tallycnt0 := rfl
@[simp] theorem State.setRemoteDma_tallycnt1 : (s.setRemoteDma v).tallycnt1 = s.tallycnt1 := rfl
@[simp] theorem State.setRemoteDma_tallycnt2 : (s.setRemoteDma v).tallycnt2 = s.tallycnt2 := rfl
@[simp] theorem State.setRemoteDma_physaddr : (s.setRemoteDma v).physaddr = s.physaddr := rfl
@[simp] theorem State.setRemoteDma_mchash : (s.setRemoteDma v).mchash = s.mchash := rfl
@[simp] theorem State.setRemoteDma_rempktPtr : (s.setRemoteDma v).rempktPtr = s.rempktPtr := rfl
@[simp] theorem State.setRemoteDma_localpktPtr : (s.setRemoteDma v).localpktPtr = s.localpktPtr := rfl
@[simp] theorem State.setRemoteDma_addressCnt : (s.setRemoteDma v).addressCnt = s.addressCnt := rfl
@[simp] theorem State.setRemoteDma_page3 : (s.setRemoteDma v).page3 = s.page3 := rfl
@[simp] theorem State.setRemoteDma_macaddr : (s.setRemoteDma v).macaddr = s.macaddr := rfl
@[simp] theorem State.setRemoteDma_mem : (s.setRemoteDma v).mem = s.mem := rfl
@[simp] theorem State.setRemoteDma_irqLevel : (s.setRemoteDma v).irqLevel = s.irqLevel := rfl
@[simp] theorem State.setRemoteDma_txPending : (s.setRemoteDma v).txPending = s.txPending := rfl
@[simp] theorem State.setRemoteDma_asserts : (s.setRemoteDma v).asserts = s.asserts := rfl
@[simp] theorem State.setRemoteDma_sent : (s.setRemoteDma v).sent = s.sent := rfl
@[simp] theorem State.setRemoteDma_inputs : (s.setRemoteDma v).inputs = s.inputs := rfl
@[simp] theorem State.setRemoteDma_readData : (s.setRemoteDma v).readData = s.readData := rfl
@[simp] theorem State.setRemoteDma_draws : (s.setRemoteDma v).draws = s.draws := rfl
end

section
variable (v : Word)
@[simp] theorem State.setRemoteBytes_cfg : (s.setRemoteBytes v).cfg = s.cfg := rfl
@[simp] theorem State.setRemoteBytes_irqLine : (s.setRemoteBytes v).irqLine = s.irqLine := rfl
@[simp] theorem State.setRemoteBytes_cr : (s.setRemoteBytes v).cr = s.cr := rfl
@[simp] theorem State.setRemoteBytes_isr : (s.setRemoteBytes v).isr = s.isr := rfl
@[simp] theorem State.setRemoteBytes_imr : (s.setRemoteBytes v).imr = s.imr := rfl
@[simp] theorem State.setRemoteBytes_dcr : (s.setRemoteBytes v).dcr = s.dcr := rfl
@[simp] theorem State.setRemoteBytes_tcr : (s.setRemoteBytes v).tcr = s.tcr := rfl
@[simp] theorem State.setRemoteBytes_tsr : (s.setRemoteBytes v).tsr = s.tsr := rfl
@[simp] theorem State.setRemoteBytes_rcr : (s.setRemoteBytes v).rcr = s.rcr := rfl
@[simp] theorem State.setRemoteBytes_rsr : (s.setRemoteBytes v).rsr = s.rsr := rfl
@[simp] theorem State.setRemoteBytes_pageStart : (s.setRemoteBytes v).pageStart = s.pageStart := rfl
@[simp] theorem State.setRemoteBytes_pageStop : (s.setRemoteBytes v).pageStop = s.pageStop := rfl
@[simp] theorem State.setRemoteBytes_boundPtr : (s.setRemoteBytes v).boundPtr = s.boundPtr := rfl
@[simp] theorem State.setRemoteBytes_currPage : (s.setRemoteBytes v).currPage = s.currPage := rfl
@[simp] theorem State.setRemoteBytes_remoteStart : (s.setRemoteBytes v).remoteStart = s.remoteStart := rfl
@[simp] theorem State.setRemoteBytes_remoteDma : (s.setRemoteBytes v).remoteDma = s.remoteDma := rfl
@[simp] theorem State.setRemoteBytes_remoteBytes : (s.setRemoteBytes v).remoteBytes = v := rfl
@[simp] theorem State.setRemoteBytes_txPageStart : (s.setRemoteBytes v).txPageStart = s.txPageStart := rfl
@[simp] theorem State.setRemoteBytes_txBytes : (s.setRemoteBytes v).txBytes = s.txBytes := rfl
@[simp] theorem State.setRemoteBytes_localDma : (s.setRemoteBytes v).localDma = s.localDma := rfl
@[simp] theorem State.setRemoteBytes_numColl : (s.setRemoteBytes v).numColl = s.numColl := rfl
@[simp] theorem State.setRemoteBytes_fifo : (s.setRemoteBytes v).fifo = s.fifo := rfl
@[simp] theorem State.setRemoteBytes_tallycnt0 : (s.setRemoteBytes v).tallycnt0 = s.tallycnt0 := rfl
@[simp] theorem State.setRemoteBytes_tallycnt1 : (s.setRemoteBytes v).tallycnt1 = s.tallycnt1 := rfl
@[simp] theorem State.setRemoteBytes_tallycnt2 : (s.setRemoteBytes v).tallycnt2 = s.tallycnt2 := rfl
@[simp] theorem State.setRemoteBytes_physaddr : (s.setRemoteBytes v).physaddr = s.physaddr := rfl
@[simp] theorem State.setRemoteBytes_mchash : (s.setRemoteBytes v).mchash = s.mchash := rfl
@[simp] theorem State.setRemoteBytes_rempktPtr : (s.setRemoteBytes v).rempktPtr = s.rempktPtr := rfl
@[simp] theorem State.setRemoteBytes_localpktPtr : (s.setRemoteBytes v).localpktPtr = s.localpktPtr := rfl
@[simp] theorem State.setRemoteBytes_addressCnt : (s.setRemoteBytes v).addressCnt = s.addressCnt := rfl
@[simp] theorem State.setRemoteBytes_page3 : (s.setRemoteBytes v).page3 = s.page3 := rfl
@[simp] theorem State.setRemoteBytes_macaddr : (s.setRemoteBytes v).macaddr = s.macaddr := rfl
@[simp] theorem State.setRemoteBytes_mem : (s.setRemoteBytes v).mem = s.mem := rfl
@[simp] theorem State.setRemoteBytes_irqLevel : (s.setRemoteBytes v).irqLevel = s.irqLevel := rfl
@[simp] theorem State.setRemoteBytes_txPending : (s.setRemoteBytes v).txPending = s.txPending := rfl
@[simp] theorem State.setRemoteBytes_asserts : (s.setRemoteBytes v).asserts = s.asserts := rfl
@[simp] theorem State.setRemoteBytes_sent : (s.setRemoteBytes v).sent = s.sent := rfl
@[simp] theorem State.setRemoteBytes_inputs : (s.setRemoteBytes v).inputs = s.inputs := rfl
@[simp] theorem State.setRemoteBytes_readData : (s.setRemoteBytes v).readData = s.readData := rfl
@[simp] theorem State.setRemoteBytes_draws : (s.setRemoteBytes v).draws = s.draws := rfl
end

section
variable (v : Byte)
@[simp] theorem State.setTxPageStart_cfg : (s.setTxPageStart v).cfg = s.cfg := rfl
@[simp] theorem State.setTxPageStart_irqLine : (s.setTxPageStart v).irqLine = s.irqLine := rfl
@[simp] theorem State.setTxPageStart_cr : (s.setTxPageStart v).cr = s.cr := rfl
@[simp] theorem State.setTxPageStart_isr : (s.setTxPageStart v).isr = s.isr := rfl
@[simp] theorem State.setTxPageStart_imr : (s.setTxPageStart v).imr = s.imr := rfl
@[simp] theorem State.setTxPageStart_dcr : (s.setTxPageStart v).dcr = s.dcr := rfl
@[simp] theorem State.setTxPageStart_tcr : (s.setTxPageStart v).tcr = s.tcr := rfl
@[simp] theorem State.setTxPageStart_tsr : (s.setTxPageStart v).tsr = s.tsr := rfl
@[simp] theorem State.setTxPageStart_rcr : (s.setTxPageStart v).rcr = s.rcr := rfl
@[simp] theorem State.setTxPageStart_rsr : (s.setTxPageStart v).rsr = s.rsr := rfl
@[simp] theorem State.setTxPageStart_pageStart : (s.setTxPageStart v).pageStart = s.pageStart := rfl
@[simp] theorem State.setTxPageStart_pageStop : (s.setTxPageStart v).pageStop = s.pageStop := rfl
@[simp] theorem State.setTxPageStart_boundPtr : (s.setTxPageStart v).boundPtr = s.boundPtr := rfl
@[simp] theorem State.setTxPageStart_currPage : (s.setTxPageStart v).currPage = s.currPage := rfl
@[simp] theorem State.setTxPageStart_remoteStart : (s.setTxPageStart v).remoteStart = s.remoteStart := rfl
@[simp] theorem State.setTxPageStart_remoteDma : (s.setTxPageStart v).remoteDma = s.remoteDma := rfl
@[simp] theorem State.setTxPageStart_remoteBytes : (s.setTxPageStart v).remoteBytes = s.remoteBytes := rfl
@[simp] theorem State.setTxPageStart_txPageStart : (s.setTxPageStart v).txPageStart = v := rfl
@[simp] theorem State.setTxPageStart_txBytes : (s.setTxPageStart v).txBytes = s.txBytes := rfl
@[simp] theorem State.setTxPageStart_localDma : (s.setTxPageStart v).localDma = s.localDma := rfl
@[simp] theorem State.setTxPageStart_numColl : (s.setTxPageStart v).numColl = s.numColl := rfl
@[simp] theorem State.setTxPageStart_fifo : (s.setTxPageStart v).fifo = s.fifo := rfl
@[simp] theorem State.setTxPageStart_tallycnt0 : (s.setTxPageStart v).tallycnt0 = s.tallycnt0 := rfl
@[simp] theorem State.setTxPageStart_tallycnt1 : (s.setTxPageStart v).tallycnt1 = s.tallycnt1 := rfl
@[simp] theorem State.setTxPageStart_tallycnt2 : (s.setTxPageStart v).tallycnt2 = s.tallycnt2 := rfl
@[simp] theorem State.setTxPageStart_physaddr : (s.setTxPageStart v).physaddr = s.physaddr := rfl
@[simp] theorem State.setTxPageStart_mchash : (s.setTxPageStart v).mchash = s.mchash := rfl
@[simp] theorem State.setTxPageStart_rempktPtr : (s.setTxPageStart v).rempktPtr = s.rempktPtr := rfl
@[simp] theorem State.setTxPageStart_localpktPtr : (s.setTxPageStart v).localpktPtr = s.localpktPtr := rfl
@[simp] theorem State.setTxPageStart_addressCnt : (s.setTxPageStart v).addressCnt = s.addressCnt := rfl
@[simp] theorem State.setTxPageStart_page3 : (s.setTxPageStart v).page3 = s.page3 := rfl
@[simp] theorem State.setTxPageStart_macaddr : (s.setTxPageStart v).macaddr = s.macaddr := rfl
@[simp] theorem State.setTxPageStart_mem : (s.setTxPageStart v).mem = s.mem := rfl
@[simp] theorem State.setTxPageStart_irqLevel : (s.setTxPageStart v).irqLevel = s.irqLevel := rfl
@[simp] theorem State.setTxPageStart_txPending : (s.setTxPageStart v).txPending = s.txPending := rfl
@[simp] theorem State.setTxPageStart_asserts : (s.setTxPageStart v).asserts = s.asserts := rfl
@[simp] theorem State.setTxPageStart_sent : (s.setTxPageStart v).sent = s.sent := rfl
@[simp] theorem State.setTxPageStart_inputs : (s.setTxPageStart v).inputs = s.inputs := rfl
@[simp] theorem State.setTxPageStart_readData : (s.setTxPageStart v).readData = s.readData := rfl
@[simp] theorem State.setTxPageStart_draws : (s.setTxPageStart v).draws = s.draws := rfl
end

section
variable (v : Word)
@[simp] theorem State.setTxBytes_cfg : (s.setTxBytes v).cfg = s.cfg := rfl
@[simp] theorem State.setTxBytes_irqLine : (s.setTxBytes v).irqLine = s.irqLine := rfl
@[simp] theorem State.setTxBytes_cr : (s.setTxBytes v).cr = s.cr := rfl
@[simp] theorem State.setTxBytes_isr : (s.setTxBytes v).isr = s.isr := rfl
@[simp] theorem State.setTxBytes_imr : (s.setTxBytes v).imr = s.imr := rfl
@[simp] theorem State.setTxBytes_dcr : (s.setTxBytes v).dcr = s.dcr := rfl
@[simp] theorem State.setTxBytes_tcr : (s.setTxBytes v).tcr = s.tcr := rfl
@[simp] theorem State.setTxBytes_tsr : (s.setTxBytes v).tsr = s.tsr := rfl
@[simp] theorem State.setTxBytes_rcr : (s.setTxBytes v).rcr = s.rcr := rfl
@[simp] theorem State.setTxBytes_rsr : (s.setTxBytes v).rsr = s.rsr := rfl
@[simp] theorem State.setTxBytes_pageStart : (s.setTxBytes v).pageStart = s.pageStart := rfl
@[simp] theorem State.setTxBytes_pageStop : (s.setTxBytes v).pageStop = s.pageStop := rfl
@[simp] theorem State.setTxBytes_boundPtr : (s.setTxBytes v).boundPtr = s.boundPtr := rfl
@[simp] theorem State.setTxBytes_currPage : (s.setTxBytes v).currPage = s.currPage := rfl
@[simp] theorem State.setTxBytes_remoteStart : (s.setTxBytes v).remoteStart = s.remoteStart := rfl
@[simp] theorem State.setTxBytes_remoteDma : (s.setTxBytes v).remoteDma = s.remoteDma := rfl
@[simp] theorem State.setTxBytes_remoteBytes : (s.setTxBytes v).remoteBytes = s.remoteBytes := rfl
@[simp] theorem State.setTxBytes_txPageStart : (s.setTxBytes v).txPageStart = s.txPageStart := rfl
@[simp] theorem State.setTxBytes_txBytes : (s.setTxBytes v).txBytes = v := rfl
@[simp] theorem State.setTxBytes_localDma : (s.setTxBytes v).localDma = s.localDma := rfl
@[simp] theorem State.setTxBytes_numColl : (s.setTxBytes v).numColl = s.numColl := rfl
@[simp] theorem State.setTxBytes_fifo : (s.setTxBytes v).fifo = s.fifo := rfl
@[simp] theorem State.setTxBytes_tallycnt0 : (s.setTxBytes v).tallycnt0 = s.tallycnt0 := rfl
@[simp] theorem State.setTxBytes_tallycnt1 : (s.setTxBytes v).tallycnt1 = s.tallycnt1 := rfl
@[simp] theorem State.setTxBytes_tallycnt2 : (s.setTxBytes v).tallycnt2 = s.tallycnt2 := rfl
@[simp] theorem State.setTxBytes_physaddr : (s.setTxBytes v).physaddr = s.physaddr := rfl
@[simp] theorem State.setTxBytes_mchash : (s.setTxBytes v).mchash = s.mchash := rfl
@[simp] theorem State.setTxBytes_rempktPtr : (s.setTxBytes v).rempktPtr = s.rempktPtr := rfl
@[simp] theorem State.setTxBytes_localpktPtr : (s.setTxBytes v).localpktPtr = s.localpktPtr := rfl
@[simp] theorem State.setTxBytes_addressCnt : (s.setTxBytes v).addressCnt = s.addressCnt := rfl
@[simp] theorem State.setTxBytes_page3 : (s.setTxBytes v).page3 = s.page3 := rfl
@[simp] theorem State.setTxBytes_macaddr : (s.setTxBytes v).macaddr = s.macaddr := rfl
@[simp] theorem State.setTxBytes_mem : (s.setTxBytes v).mem = s.mem := rfl
@[simp] theorem State.setTxBytes_irqLevel : (s.setTxBytes v).irqLevel = s.irqLevel := rfl
@[simp] theorem State.setTxBytes_txPending : (s.setTxBytes v).txPending = s.txPending := rfl
@[simp] theorem State.setTxBytes_asserts : (s.setTxBytes v).asserts = s.asserts := rfl
@[simp] theorem State.setTxBytes_sent : (s.setTxBytes v).sent = s.sent := rfl
@[simp] theorem State.setTxBytes_inputs : (s.setTxBytes v).inputs = s.inputs := rfl
@[simp] theorem State.setTxBytes_readData : (s.setTxBytes v).readData = s.readData := rfl
@[simp] theorem State.setTxBytes_draws : (s.setTxBytes v).draws = s.draws := rfl
end

section
variable (v : Word)
@[simp] theorem State.setLocalDma_cfg : (s.setLocalDma v).cfg = s.cfg := rfl
@[simp] theorem State.setLocalDma_irqLine : (s.setLocalDma v).irqLine = s.irqLine := rfl
@[simp] theorem State.setLocalDma_cr : (s.setLocalDma v).cr = s.cr := rfl
@[simp] theorem State.setLocalDma_isr : (s.setLocalDma v).isr = s.isr := rfl
@[simp] theorem State.setLocalDma_imr : (s.setLocalDma v).imr = s.imr := rfl
@[simp] theorem State.setLocalDma_dcr : (s.setLocalDma v).dcr = s.dcr := rfl
@[simp] theorem State.setLocalDma_tcr : (s.setLocalDma v).tcr = s.tcr := rfl
@[simp] theorem State.setLocalDma_tsr : (s.setLocalDma v).tsr = s.tsr := rfl
@[simp] theorem State.setLocalDma_rcr : (s.setLocalDma v).rcr = s.rcr := rfl
@[simp] theorem State.setLocalDma_rsr : (s.setLocalDma v).rsr = s.rsr := rfl
@[simp] theorem State.setLocalDma_pageStart : (s.setLocalDma v).pageStart = s.pageStart := rfl
@[simp] theorem State.setLocalDma_pageStop : (s.setLocalDma v).pageStop = s.pageStop := rfl
@[simp] theorem State.setLocalDma_boundPtr : (s.setLocalDma v).boundPtr = s.boundPtr := rfl
@[simp] theorem State.setLocalDma_currPage : (s.setLocalDma v).currPage = s.currPage := rfl
@[simp] theorem State.setLocalDma_remoteStart : (s.setLocalDma v).remoteStart = s.remoteStart := rfl
@[simp] theorem State.setLocalDma_remoteDma : (s.setLocalDma v).remoteDma = s.remoteDma := rfl
@[simp] theorem State.setLocalDma_remoteBytes : (s.setLocalDma v).remoteBytes = s.remoteBytes := rfl
@[simp] theorem State.setLocalDma_txPageStart : (s.setLocalDma v).txPageStart = s.txPageStart := rfl
@[simp] theorem State.setLocalDma_txBytes : (s.setLocalDma v).txBytes = s.txBytes := rfl
@[simp] theorem State.setLocalDma_localDma : (s.setLocalDma v).localDma = v := rfl
@[simp] theorem State.setLocalDma_numColl : (s.setLocalDma v).numColl = s.numColl := rfl
@[simp] theorem State.setLocalDma_fifo : (s.setLocalDma v).fifo = s.fifo := rfl
@[simp] theorem State.setLocalDma_tallycnt0 : (s.setLocalDma v).tallycnt0 = s.tallycnt0 := rfl
@[simp] theorem State.setLocalDma_tallycnt1 : (s.setLocalDma v).tallycnt1 = s.tallycnt1 := rfl
@[simp] theorem State.setLocalDma_tallycnt2 : (s.setLocalDma v).tallycnt2 = s.tallycnt2 := rfl
@[simp] theorem State.setLocalDma_physaddr : (s.setLocalDma v).physaddr = s.physaddr := rfl
@[simp] theorem State.setLocalDma_mchash : (s.setLocalDma v).mchash = s.mchash := rfl
@[simp] theorem State.setLocalDma_rempktPtr : (s.setLocalDma v).rempktPtr = s.rempktPtr := rfl
@[simp] theorem State.setLocalDma_localpktPtr : (s.setLocalDma v).localpktPtr = s.localpktPtr := rfl
@[simp] theorem State.setLocalDma_addressCnt : (s.setLocalDma v).addressCnt = s.addressCnt := rfl
@[simp] theorem State.setLocalDma_page3 : (s.setLocalDma v).page3 = s.page3 := rfl
@[simp] theorem State.setLocalDma_macaddr : (s.setLocalDma v).macaddr = s.macaddr := rfl
@[simp] theorem State.setLocalDma_mem : (s.setLocalDma v).mem = s.mem := rfl
@[simp] theorem State.setLocalDma_irqLevel : (s.setLocalDma v).irqLevel = s.irqLevel := rfl
@[simp] theorem State.setLocalDma_txPending : (s.setLocalDma v).txPending = s.txPending := rfl
@[simp] theorem State.setLocalDma_asserts : (s.setLocalDma v).asserts = s.asserts := rfl
@[simp] theorem State.setLocalDma_sent : (s.setLocalDma v).sent = s.sent := rfl
@[simp] theorem State.setLocalDma_inputs : (s.setLocalDma v).inputs = s.inputs := rfl
@[simp] theorem State.setLocalDma_readData : (s.setLocalDma v).readData = s.readData := rfl
@[simp] theorem State.setLocalDma_draws : (s.setLocalDma v).draws = s.draws := rfl
end

section
variable (v : Vector Byte 8)
@[simp] theorem State.setMchash_cfg : (s.setMchash v).cfg = s.cfg := rfl
@[simp] theorem State.setMchash_irqLine : (s.setMchash v).irqLine = s.irqLine := rfl
@[simp] theorem State.setMchash_cr : (s.setMchash v).cr = s.cr := rfl
@[simp] theorem State.setMchash_isr : (s.setMchash v).isr = s.isr := rfl
@[simp] theorem State.setMchash_imr : (s.setMchash v).imr = s.imr := rfl
@[simp] theorem State.setMchash_dcr : (s.setMchash v).dcr = s.dcr := rfl
@[simp] theorem State.setMchash_tcr : (s.setMchash v).tcr = s.tcr := rfl
@[simp] theorem State.setMchash_tsr : (s.setMchash v).tsr = s.tsr := rfl
@[simp] theorem State.setMchash_rcr : (s.setMchash v).rcr = s.rcr := rfl
@[simp] theorem State.setMchash_rsr : (s.setMchash v).rsr = s.rsr := rfl
@[simp] theorem State.setMchash_pageStart : (s.setMchash v).pageStart = s.pageStart := rfl
@[simp] theorem State.setMchash_pageStop : (s.setMchash v).pageStop = s.pageStop := rfl
@[simp] theorem State.setMchash_boundPtr : (s.setMchash v).boundPtr = s.boundPtr := rfl
@[simp] theorem State.setMchash_currPage : (s.setMchash v).currPage = s.currPage := rfl
@[simp] theorem State.setMchash_remoteStart : (s.setMchash v).remoteStart = s.remoteStart := rfl
@[simp] theorem State.setMchash_remoteDma : (s.setMchash v).remoteDma = s.remoteDma := rfl
@[simp] theorem State.setMchash_remoteBytes : (s.setMchash v).remoteBytes = s.remoteBytes := rfl
@[simp] theorem State.setMchash_txPageStart : (s.setMchash v).txPageStart = s.txPageStart := rfl
@[simp] theorem State.setMchash_txBytes : (s.setMchash v).txBytes = s.txBytes := rfl
@[simp] theorem State.setMchash_localDma : (s.setMchash v).localDma = s.localDma := rfl
@[simp] theorem State.setMchash_numColl : (s.setMchash v).numColl = s.numColl := rfl
@[simp] theorem State.setMchash_fifo : (s.setMchash v).fifo = s.fifo := rfl
@[simp] theorem State.setMchash_tallycnt0 : (s.setMchash v).tallycnt0 = s.tallycnt0 := rfl
@[simp] theorem State.setMchash_tallycnt1 : (s.setMchash v).tallycnt1 = s.tallycnt1 := rfl
@[simp] theorem State.setMchash_tallycnt2 : (s.setMchash v).tallycnt2 = s.tallycnt2 := rfl
@[simp] theorem State.setMchash_physaddr : (s.setMchash v).physaddr = s.physaddr := rfl
@[simp] theorem State.setMchash_mchash : (s.setMchash v).mchash = v := rfl
@[simp] theorem State.setMchash_rempktPtr : (s.setMchash v).rempktPtr = s.rempktPtr := rfl
@[simp] theorem State.setMchash_localpktPtr : (s.setMchash v).localpktPtr = s.localpktPtr := rfl
@[simp] theorem State.setMchash_addressCnt : (s.setMchash v).addressCnt = s.addressCnt := rfl
@[simp] theorem State.setMchash_page3 : (s.setMchash v).page3 = s.page3 := rfl
@[simp] theorem State.setMchash_macaddr : (s.setMchash v).macaddr = s.macaddr := rfl
@[simp] theorem State.setMchash_mem : (s.setMchash v).mem = s.mem := rfl
@[simp] theorem State.setMchash_irqLevel : (s.setMchash v).irqLevel = s.irqLevel := rfl
@[simp] theorem State.setMchash_txPending : (s.setMchash v).txPending = s.txPending := rfl
@[simp] theorem State.setMchash_asserts : (s.setMchash v).asserts = s.asserts := rfl
@[simp] theorem State.setMchash_sent : (s.setMchash v).sent = s.sent := rfl
@[simp] theorem State.setMchash_inputs : (s.setMchash v).inputs = s.inputs := rfl
@[simp] theorem State.setMchash_readData : (s.setMchash v).readData = s.readData := rfl
@[simp] theorem State.setMchash_draws : (s.setMchash v).draws = s.draws := rfl
end

section
variable (v : Byte)
@[simp] theorem State.setRempktPtr_cfg : (s.setRempktPtr v).cfg = s.cfg := rfl
@[simp] theorem State.setRempktPtr_irqLine : (s.setRempktPtr v).irqLine = s.irqLine := rfl
@[simp] theorem State.setRempktPtr_cr : (s.setRempktPtr v).cr = s.cr := rfl
@[simp] theorem State.setRempktPtr_isr : (s.setRempktPtr v).isr = s.isr := rfl
@[simp] theorem State.setRempktPtr_imr : (s.setRempktPtr v).imr = s.imr := rfl
@[simp] theorem State.setRempktPtr_dcr : (s.setRempktPtr v).dcr = s.dcr := rfl
@[simp] theorem State.setRempktPtr_tcr : (s.setRempktPtr v).tcr = s.tcr := rfl
@[simp] theorem State.setRempktPtr_tsr : (s.setRempktPtr v).tsr = s.tsr := rfl
@[simp] theorem State.setRempktPtr_rcr : (s.setRempktPtr v).rcr = s.rcr := rfl
@[simp] theorem State.setRempktPtr_rsr : (s.setRempktPtr v).rsr = s.rsr := rfl
@[simp] theorem State.setRempktPtr_pageStart : (s.setRempktPtr v).pageStart = s.pageStart := rfl
@[simp] theorem State.setRempktPtr_pageStop : (s.setRempktPtr v).pageStop = s.pageStop := rfl
@[simp] theorem State.setRempktPtr_boundPtr : (s.setRempktPtr v).boundPtr = s.boundPtr := rfl
@[simp] theorem State.setRempktPtr_currPage : (s.setRempktPtr v).currPage = s.currPage := rfl
@[simp] theorem State.setRempktPtr_remoteStart : (s.setRempktPtr v).remoteStart = s.remoteStart := rfl
@[simp] theorem State.setRempktPtr_remoteDma : (s.setRempktPtr v).remoteDma = s.remoteDma := rfl
@[simp] theorem State.setRempktPtr_remoteBytes : (s.setRempktPtr v).remoteBytes = s.remoteBytes := rfl
@[simp] theorem State.setRempktPtr_txPageStart : (s.setRempktPtr v).txPageStart = s.txPageStart := rfl
@[simp] theorem State.setRempktPtr_txBytes : (s.setRempktPtr v).txBytes = s.txBytes := rfl
@[simp] theorem State.setRempktPtr_localDma : (s.setRempktPtr v).localDma = s.localDma := rfl
@[simp] theorem State.setRempktPtr_numColl : (s.setRempktPtr v).numColl = s.numColl := rfl
@[simp] theorem State.setRempktPtr_fifo : (s.setRempktPtr v).fifo = s.fifo := rfl
@[simp] theorem State.setRempktPtr_tallycnt0 : (s.setRempktPtr v).tallycnt0 = s.tallycnt0 := rfl
@[simp] theorem State.setRempktPtr_tallycnt1 : (s.setRempktPtr v).tallycnt1 = s.tallycnt1 := rfl
@[simp] theorem State.setRempktPtr_tallycnt2 : (s.setRempktPtr v).tallycnt2 = s.tallycnt2 := rfl
@[simp] theorem State.setRempktPtr_physaddr : (s.setRempktPtr v).physaddr = s.physaddr := rfl
@[simp] theorem State.setRempktPtr_mchash : (s.setRempktPtr v).mchash = s.mchash := rfl
@[simp] theorem State.setRempktPtr_rempktPtr : (s.setRempktPtr v).rempktPtr = v := rfl
@[simp] theorem State.setRempktPtr_localpktPtr : (s.setRempktPtr v).localpktPtr = s.localpktPtr := rfl
@[simp] theorem State.setRempktPtr_addressCnt : (s.setRempktPtr v).addressCnt = s.addressCnt := rfl
@[simp] theorem State.setRempktPtr_page3 : (s.setRempktPtr v).page3 = s.page3 := rfl
@[simp] theorem State.setRempktPtr_macaddr : (s.setRempktPtr v).macaddr = s.macaddr := rfl
@[simp] theorem State.setRempktPtr_mem : (s.setRempktPtr v).mem = s.mem := rfl
@[simp] theorem State.setRempktPtr_irqLevel : (s.setRempktPtr v).irqLevel = s.irqLevel := rfl
@[simp] theorem State.setRempktPtr_txPending : (s.setRempktPtr v).txPending = s.txPending := rfl
@[simp] theorem State.setRempktPtr_asserts : (s.setRempktPtr v).asserts = s.asserts := rfl
@[simp] theorem State.setRempktPtr_sent : (s.setRempktPtr v).sent = s.sent := rfl
@[simp] theorem State.setRempktPtr_inputs : (s.setRempktPtr v).inputs = s.inputs := rfl
@[simp] theorem State.setRempktPtr_readData : (s.setRempktPtr v).readData = s.readData := rfl
@[simp] theorem State.setRempktPtr_draws : (s.setRempktPtr v).draws = s.draws := rfl
end

section
variable (v : Byte)
@[simp] theorem State.setLocalpktPtr_cfg : (s.setLocalpktPtr v).cfg = s.cfg := rfl
@[simp] theorem State.setLocalpktPtr_irqLine : (s.setLocalpktPtr v).irqLine = s.irqLine := rfl
@[simp] theorem State.setLocalpktPtr_cr : (s.setLocalpktPtr v).cr = s.cr := rfl
@[simp] theorem State.setLocalpktPtr_isr : (s.setLocalpktPtr v).isr = s.isr := rfl
@[simp] theorem State.setLocalpktPtr_imr : (s.setLocalpktPtr v).imr = s.imr := rfl
@[simp] theorem State.setLocalpktPtr_dcr : (s.setLocalpktPtr v).dcr = s.dcr := rfl
@[simp] theorem State.setLocalpktPtr_tcr : (s.setLocalpktPtr v).tcr = s.tcr := rfl
@[simp] theorem State.setLocalpktPtr_tsr : (s.setLocalpktPtr v).tsr = s.tsr := rfl
@[simp] theorem State.setLocalpktPtr_rcr : (s.setLocalpktPtr v).rcr = s.rcr := rfl
@[simp] theorem State.setLocalpktPtr_rsr : (s.setLocalpktPtr v).rsr = s.rsr := rfl
@[simp] theorem State.setLocalpktPtr_pageStart : (s.setLocalpktPtr v).pageStart = s.pageStart := rfl
@[simp] theorem State.setLocalpktPtr_pageStop : (s.setLocalpktPtr v).pageStop = s.pageStop := rfl
@[simp] theorem State.setLocalpktPtr_boundPtr : (s.setLocalpktPtr v).boundPtr = s.boundPtr := rfl
@[simp] theorem State.setLocalpktPtr_currPage : (s.setLocalpktPtr v).currPage = s.currPage := rfl
@[simp] theorem State.setLocalpktPtr_remoteStart : (s.setLocalpktPtr v).remoteStart = s.remoteStart := rfl
@[simp] theorem State.setLocalpktPtr_remoteDma : (s.setLocalpktPtr v).remoteDma = s.remoteDma := rfl
@[simp] theorem State.setLocalpktPtr_remoteBytes : (s.setLocalpktPtr v).remoteBytes = s.remoteBytes := rfl
@[simp] theorem State.setLocalpktPtr_txPageStart : (s.setLocalpktPtr v).txPageStart = s.txPageStart := rfl
@[simp] theorem State.setLocalpktPtr_txBytes : (s.setLocalpktPtr v).txBytes = s.txBytes := rfl
@[simp] theorem State.setLocalpktPtr_localDma : (s.setLocalpktPtr v).localDma = s.localDma := rfl
@[simp] theorem State.setLocalpktPtr_numColl : (s.setLocalpktPtr v).numColl = s.numColl := rfl
@[simp] theorem State.setLocalpktPtr_fifo : (s.setLocalpktPtr v).fifo = s.fifo := rfl
@[simp] theorem State.setLocalpktPtr_tallycnt0 : (s.setLocalpktPtr v).tallycnt0 = s.tallycnt0 := rfl
@[simp] theorem State.setLocalpktPtr_tallycnt1 : (s.setLocalpktPtr v).tallycnt1 = s.tallycnt1 := rfl
@[simp] theorem State.setLocalpktPtr_tallycnt2 : (s.setLocalpktPtr v).tallycnt2 = s.tallycnt2 := rfl
@[simp] theorem State.setLocalpktPtr_physaddr : (s.setLocalpktPtr v).physaddr = s.physaddr := rfl
@[simp] theorem State.setLocalpktPtr_mchash : (s.setLocalpktPtr v).mchash = s.mchash := rfl
@[simp] theorem State.setLocalpktPtr_rempktPtr : (s.setLocalpktPtr v).rempktPtr = s.rempktPtr := rfl
@[simp] theorem State.setLocalpktPtr_localpktPtr : (s.setLocalpktPtr v).localpktPtr = v := rfl
@[simp] theorem State.setLocalpktPtr_addressCnt : (s.setLocalpktPtr v).addressCnt = s.addressCnt := rfl
@[simp] theorem State.setLocalpktPtr_page3 : (s.setLocalpktPtr v).page3 = s.page3 := rfl
@[simp] theorem State.setLocalpktPtr_macaddr : (s.setLocalpktPtr v).macaddr = s.macaddr := rfl
@[simp] theorem State.setLocalpktPtr_mem : (s.setLocalpktPtr v).mem = s.mem := rfl
@[simp] theorem State.setLocalpktPtr_irqLevel : (s.setLocalpktPtr v).irqLevel = s.irqLevel := rfl
@[simp] theorem State.setLocalpktPtr_txPending : (s.setLocalpktPtr v).txPending = s.txPending := rfl
@[simp] theorem State.setLocalpktPtr_asserts : (s.setLocalpktPtr v).asserts = s.asserts := rfl
@[simp] theorem State.setLocalpktPtr_sent : (s.setLocalpktPtr v).sent = s.sent := rfl
@[simp] theorem State.setLocalpktPtr_inputs : (s.setLocalpktPtr v).inputs = s.inputs := rfl
@[simp] theorem State.setLocalpktPtr_readData : (s.setLocalpktPtr v).readData = s.readData := rfl
@[simp] theorem State.setLocalpktPtr_draws : (s.setLocalpktPtr v).draws = s.draws := rfl
end

section
variable (v : Word)
@[simp] theorem State.setAddressCnt_cfg : (s.setAddressCnt v).cfg = s.cfg := rfl
@[simp] theorem State.setAddressCnt_irqLine : (s.setAddressCnt v).irqLine = s.irqLine := rfl
@[simp] theorem State.setAddressCnt_cr : (s.setAddressCnt v).cr = s.cr := rfl
@[simp] theorem State.setAddressCnt_isr : (s.setAddressCnt v).isr = s.isr := rfl
@[simp] theorem State.setAddressCnt_imr : (s.setAddressCnt v).imr = s.imr := rfl
@[simp] theorem State.setAddressCnt_dcr : (s.setAddressCnt v).dcr = s.dcr := rfl
@[simp] theorem State.setAddressCnt_tcr : (s.setAddressCnt v).tcr = s.tcr := rfl
@[simp] theorem State.setAddressCnt_tsr : (s.setAddressCnt v).tsr = s.tsr := rfl
@[simp] theorem State.setAddressCnt_rcr : (s.setAddressCnt v).rcr = s.rcr := rfl
@[simp] theorem State.setAddressCnt_rsr : (s.setAddressCnt v).rsr = s.rsr := rfl
@[simp] theorem State.setAddressCnt_pageStart : (s.setAddressCnt v).pageStart = s.pageStart := rfl
@[simp] theorem State.setAddressCnt_pageStop : (s.setAddressCnt v).pageStop = s.pageStop := rfl
@[simp] theorem State.setAddressCnt_boundPtr : (s.setAddressCnt v).boundPtr = s.boundPtr := rfl
@[simp] theorem State.setAddressCnt_currPage : (s.setAddressCnt v).currPage = s.currPage := rfl
@[simp] theorem State.setAddressCnt_remoteStart : (s.setAddressCnt v).remoteStart = s.remoteStart := rfl
@[simp] theorem State.setAddressCnt_remoteDma : (s.setAddressCnt v).remoteDma = s.remoteDma := rfl
@[simp] theorem State.setAddressCnt_remoteBytes : (s.setAddressCnt v).remoteBytes = s.remoteBytes := rfl
@[simp] theorem State.setAddressCnt_txPageStart : (s.setAddressCnt v).txPageStart = s.txPageStart := rfl
@[simp] theorem State.setAddressCnt_txBytes : (s.setAddressCnt v).txBytes = s.txBytes := rfl
@[simp] theorem State.setAddressCnt_localDma : (s.setAddressCnt v).localDma = s.localDma := rfl
@[simp] theorem State.setAddressCnt_numColl : (s.setAddressCnt v).numColl = s.numColl := rfl
@[simp] theorem State.setAddressCnt_fifo : (s.setAddressCnt v).fifo = s.fifo := rfl
@[simp] theorem State.setAddressCnt_tallycnt0 : (s.setAddressCnt v).tallycnt0 = s.tallycnt0 := rfl
@[simp] theorem State.setAddressCnt_tallycnt1 : (s.setAddressCnt v).tallycnt1 = s.tallycnt1 := rfl
@[simp] theorem State.setAddressCnt_tallycnt2 : (s.setAddressCnt v).tallycnt2 = s.tallycnt2 := rfl
@[simp] theorem State.setAddressCnt_physaddr : (s.setAddressCnt v).physaddr = s.physaddr := rfl
@[simp] theorem State.setAddressCnt_mchash : (s.setAddressCnt v).mchash = s.mchash := rfl
@[simp] theorem State.setAddressCnt_rempktPtr : (s.setAddressCnt v).rempktPtr = s.rempktPtr := rfl
@[simp] theorem State.setAddressCnt_localpktPtr : (s.setAddressCnt v).localpktPtr = s.localpktPtr := rfl
@[simp] theorem State.setAddressCnt_addressCnt : (s.setAddressCnt v).addressCnt = v := rfl
@[simp] theorem State.setAddressCnt_page3 : (s.setAddressCnt v).page3 = s.page3 := rfl
@[simp] theorem State.setAddressCnt_macaddr : (s.setAddressCnt v).macaddr = s.macaddr := rfl
@[simp] theorem State.setAddressCnt_mem : (s.setAddressCnt v).mem = s.mem := rfl
@[simp] theorem State.setAddressCnt_irqLevel : (s.setAddressCnt v).irqLevel = s.irqLevel := rfl
@[simp] theorem State.setAddressCnt_txPending : (s.setAddressCnt v).txPending = s.txPending := rfl
@[simp] theorem State.setAddressCnt_asserts : (s.setAddressCnt v).asserts = s.asserts := rfl
@[simp] theorem State.setAddressCnt_sent : (s.setAddressCnt v).sent = s.sent := rfl
@[simp] theorem State.setAddressCnt_inputs : (s.setAddressCnt v).inputs = s.inputs := rfl
@[simp] theorem State.setAddressCnt_readData : (s.setAddressCnt v).readData = s.readData := rfl
@[simp] theorem State.setAddressCnt_draws : (s.setAddressCnt v).draws = s.draws := rfl
end

section
variable (v : Memory)
@[simp] theorem State.setMem_cfg : (s.setMem v).cfg = s.cfg := rfl
@[simp] theorem State.setMem_irqLine : (s.setMem v).irqLine = s.irqLine := rfl
@[simp] theorem State.setMem_cr : (s.setMem v).cr = s.cr := rfl
@[simp] theorem State.setMem_isr : (s.setMem v).isr = s.isr := rfl
@[simp] theorem State.setMem_imr : (s.setMem v).imr = s.imr := rfl
@[simp] theorem State.setMem_dcr : (s.setMem v).dcr = s.dcr := rfl
@[simp] theorem State.setMem_tcr : (s.setMem v).tcr = s.tcr := rfl
@[simp] theorem State.setMem_tsr : (s.setMem v).tsr = s.tsr := rfl
@[simp] theorem State.setMem_rcr : (s.setMem v).rcr = s.rcr := rfl
@[simp] theorem State.setMem_rsr : (s.setMem v).rsr = s.rsr := rfl
@[simp] theorem State.setMem_pageStart : (s.setMem v).pageStart = s.pageStart := rfl
@[simp] theorem State.setMem_pageStop : (s.setMem v).pageStop = s.pageStop := rfl
@[simp] theorem State.setMem_boundPtr : (s.setMem v).boundPtr = s.boundPtr := rfl
@[simp] theorem State.setMem_currPage : (s.setMem v).currPage = s.currPage := rfl
@[simp] theorem State.setMem_remoteStart : (s.setMem v).remoteStart = s.remoteStart := rfl
@[simp] theorem State.setMem_remoteDma : (s.setMem v).remoteDma = s.remoteDma := rfl
@[simp] theorem State.setMem_remoteBytes : (s.setMem v).remoteBytes = s.remoteBytes := rfl
@[simp] theorem State.setMem_txPageStart : (s.setMem v).txPageStart = s.txPageStart := rfl
@[simp] theorem State.setMem_txBytes : (s.setMem v).txBytes = s.txBytes := rfl
@[simp] theorem State.setMem_localDma : (s.setMem v).localDma = s.localDma := rfl
@[simp] theorem State.setMem_numColl : (s.setMem v).numColl = s.numColl := rfl
@[simp] theorem State.setMem_fifo : (s.setMem v).fifo = s.fifo := rfl
@[simp] theorem State.setMem_tallycnt0 : (s.setMem v).tallycnt0 = s.tallycnt0 := rfl
@[simp] theorem State.setMem_tallycnt1 : (s.setMem v).tallycnt1 = s.tallycnt1 := rfl
@[simp] theorem State.setMem_tallycnt2 : (s.setMem v).tallycnt2 = s.tallycnt2 := rfl
@[simp] theorem State.setMem_physaddr : (s.setMem v).physaddr = s.physaddr := rfl
@[simp] theorem State.setMem_mchash : (s.setMem v).mchash = s.mchash := rfl
@[simp] theorem State.setMem_rempktPtr : (s.setMem v).rempktPtr = s.rempktPtr := rfl
@[simp] theorem State.setMem_localpktPtr : (s.setMem v).localpktPtr = s.localpktPtr := rfl
@[simp] theorem State.setMem_addressCnt : (s.setMem v).addressCnt = s.addressCnt := rfl
@[simp] theorem State.setMem_page3 : (s.setMem v).page3 = s.page3 := rfl
@[simp] theorem State.setMem_macaddr : (s.setMem v).macaddr = s.macaddr := rfl
@[simp] theorem State.setMem_mem : (s.setMem v).mem = v := rfl
@[simp] theorem State.setMem_irqLevel : (s.setMem v).irqLevel = s.irqLevel := rfl
@[simp] theorem State.setMem_txPending : (s.setMem v).txPending = s.txPending := rfl
@[simp] theorem State.setMem_asserts : (s.setMem v).asserts = s.asserts := rfl
@[simp] theorem State.setMem_sent : (s.setMem v).sent = s.sent := rfl
@[simp] theorem State.setMem_inputs : (s.setMem v).inputs = s.inputs := rfl
@[simp] theorem State.setMem_readData : (s.setMem v).readData = s.readData := rfl
@[simp] theorem State.setMem_draws : (s.setMem v).draws = s.draws := rfl
end

section
variable (v : Bool)
@[simp] theorem State.setIrqLevel_cfg : (s.setIrqLevel v).cfg = s.cfg := rfl
@[simp] theorem State.setIrqLevel_irqLine : (s.setIrqLevel v).irqLine = s.irqLine := rfl
@[simp] theorem State.setIrqLevel_cr : (s.setIrqLevel v).cr = s.cr := rfl
@[simp] theorem State.setIrqLevel_isr : (s.setIrqLevel v).isr = s.isr := rfl
@[simp] theorem State.setIrqLevel_imr : (s.setIrqLevel v).imr = s.imr := rfl
@[simp] theorem State.setIrqLevel_dcr : (s.setIrqLevel v).dcr = s.dcr := rfl
@[simp] theorem State.setIrqLevel_tcr : (s.setIrqLevel v).tcr = s.tcr := rfl
@[simp] theorem State.setIrqLevel_tsr : (s.setIrqLevel v).tsr = s.tsr := rfl
@[simp] theorem State.setIrqLevel_rcr : (s.setIrqLevel v).rcr = s.rcr := rfl
@[simp] theorem State.setIrqLevel_rsr : (s.setIrqLevel v).rsr = s.rsr := rfl
@[simp] theorem State.setIrqLevel_pageStart : (s.setIrqLevel v).pageStart = s.pageStart := rfl
@[simp] theorem State.setIrqLevel_pageStop : (s.setIrqLevel v).pageStop = s.pageStop := rfl
@[simp] theorem State.setIrqLevel_boundPtr : (s.setIrqLevel v).boundPtr = s.boundPtr := rfl
@[simp] theorem State.setIrqLevel_currPage : (s.setIrqLevel v).currPage = s.currPage := rfl
@[simp] theorem State.setIrqLevel_remoteStart : (s.setIrqLevel v).remoteStart = s.remoteStart := rfl
@[simp] theorem State.setIrqLevel_remoteDma : (s.setIrqLevel v).remoteDma = s.remoteDma := rfl
@[simp] theorem State.setIrqLevel_remoteBytes : (s.setIrqLevel v).remoteBytes = s.remoteBytes := rfl
@[simp] theorem State.setIrqLevel_txPageStart : (s.setIrqLevel v).txPageStart = s.txPageStart := rfl
@[simp] theorem State.setIrqLevel_txBytes : (s.setIrqLevel v).txBytes = s.txBytes := rfl
@[simp] theorem State.setIrqLevel_localDma : (s.setIrqLevel v).localDma = s.localDma := rfl
@[simp] theorem State.setIrqLevel_numColl : (s.setIrqLevel v).numColl = s.numColl := rfl
@[simp] theorem State.setIrqLevel_fifo : (s.setIrqLevel v).fifo = s.fifo := rfl
@[simp] theorem State.setIrqLevel_tallycnt0 : (s.setIrqLevel v).tallycnt0 = s.tallycnt0 := rfl
@[simp] theorem State.setIrqLevel_tallycnt1 : (s.setIrqLevel v).tallycnt1 = s.tallycnt1 := rfl
@[simp] theorem State.setIrqLevel_tallycnt2 : (s.setIrqLevel v).tallycnt2 = s.tallycnt2 := rfl
@[simp] theorem State.setIrqLevel_physaddr : (s.setIrqLevel v).physaddr = s.physaddr := rfl
@[simp] theorem State.setIrqLevel_mchash : (s.setIrqLevel v).mchash = s.mchash := rfl
@[simp] theorem State.setIrqLevel_rempktPtr : (s.setIrqLevel v).rempktPtr = s.rempktPtr := rfl
@[simp] theorem State.setIrqLevel_localpktPtr : (s.setIrqLevel v).localpktPtr = s.localpktPtr := rfl
@[simp] theorem State.setIrqLevel_addressCnt : (s.setIrqLevel v).addressCnt = s.addressCnt := rfl
@[simp] theorem State.setIrqLevel_page3 : (s.setIrqLevel v).page3 = s.page3 := rfl
@[simp] theorem State.setIrqLevel_macaddr : (s.setIrqLevel v).macaddr = s.macaddr := rfl
@[simp] theorem State.setIrqLevel_mem : (s.setIrqLevel v).mem = s.mem := rfl
@[simp] theorem State.setIrqLevel_irqLevel : (s.setIrqLevel v).irqLevel = v := rfl
@[simp] theorem State.setIrqLevel_txPending : (s.setIrqLevel v).txPending = s.txPending := rfl
@[simp] theorem State.setIrqLevel_asserts : (s.setIrqLevel v).asserts = s.asserts := rfl
@[simp] theorem State.setIrqLevel_sent : (s.setIrqLevel v).sent = s.sent := rfl
@[simp] theorem State.setIrqLevel_inputs : (s.setIrqLevel v).inputs = s.inputs := rfl
@[simp] theorem State.setIrqLevel_readData : (s.setIrqLevel v).readData = s.readData := rfl
@[simp] theorem State.setIrqLevel_draws : (s.setIrqLevel v).draws = s.draws := rfl
end

section
variable (v : Bool)
@[simp] theorem State.setTxPending_cfg : (s.setTxPending v).cfg = s.cfg := rfl
@[simp] theorem State.setTxPending_irqLine : (s.setTxPending v).irqLine = s.irqLine := rfl
@[simp] theorem State.setTxPending_cr : (s.setTxPending v).cr = s.cr := rfl
@[simp] theorem State.setTxPending_isr : (s.setTxPending v).isr = s.isr := rfl
@[simp] theorem State.setTxPending_imr : (s.setTxPending v).imr = s.imr := rfl
@[simp] theorem State.setTxPending_dcr : (s.setTxPending v).dcr = s.dcr := rfl
@[simp] theorem State.setTxPending_tcr : (s.setTxPending v).tcr = s.tcr := rfl
@[simp] theorem State.setTxPending_tsr : (s.setTxPending v).tsr = s.tsr := rfl
@[simp] theorem State.setTxPending_rcr : (s.setTxPending v).rcr = s.rcr := rfl
@[simp] theorem State.setTxPending_rsr : (s.setTxPending v).rsr = s.rsr := rfl
@[simp] theorem State.setTxPending_pageStart : (s.setTxPending v).pageStart = s.pageStart := rfl
@[simp] theorem State.setTxPending_pageStop : (s.setTxPending v).pageStop = s.pageStop := rfl
@[simp] theorem State.setTxPending_boundPtr : (s.setTxPending v).boundPtr = s.boundPtr := rfl
@[simp] theorem State.setTxPending_currPage : (s.setTxPending v).currPage = s.currPage := rfl
@[simp] theorem State.setTxPending_remoteStart : (s.setTxPending v).remoteStart = s.remoteStart := rfl
@[simp] theorem State.setTxPending_remoteDma : (s.setTxPending v).remoteDma = s.remoteDma := rfl
@[simp] theorem State.setTxPending_remoteBytes : (s.setTxPending v).remoteBytes = s.remoteBytes := rfl
@[simp] theorem State.setTxPending_txPageStart : (s.setTxPending v).txPageStart = s.txPageStart := rfl
@[simp] theorem State.setTxPending_txBytes : (s.setTxPending v).txBytes = s.txBytes := rfl
@[simp] theorem State.setTxPending_localDma : (s.setTxPending v).localDma = s.localDma := rfl
@[simp] theorem State.setTxPending_numColl : (s.setTxPending v).numColl = s.numColl := rfl
@[simp] theorem State.setTxPending_fifo : (s.setTxPending v).fifo = s.fifo := rfl
@[simp] theorem State.setTxPending_tallycnt0 : (s.setTxPending v).tallycnt0 = s.tallycnt0 := rfl
@[simp] theorem State.setTxPending_tallycnt1 : (s.setTxPending v).tallycnt1 = s.tallycnt1 := rfl
@[simp] theorem State.setTxPending_tallycnt2 : (s.setTxPending v).tallycnt2 = s.tallycnt2 := rfl
@[simp] theorem State.setTxPending_physaddr : (s.setTxPending v).physaddr = s.physaddr := rfl
@[simp] theorem State.setTxPending_mchash : (s.setTxPending v).mchash = s.mchash := rfl
@[simp] theorem State.setTxPending_rempktPtr : (s.setTxPending v).rempktPtr = s.rempktPtr := rfl
@[simp] theorem State.setTxPending_localpktPtr : (s.setTxPending v).localpktPtr = s.localpktPtr := rfl
@[simp] theorem State.setTxPending_addressCnt : (s.setTxPending v).addressCnt = s.addressCnt := rfl
@[simp] theorem State.setTxPending_page3 : (s.setTxPending v).page3 = s.page3 := rfl
@[simp] theorem State.setTxPending_macaddr : (s.setTxPending v).macaddr = s.macaddr := rfl
@[simp] theorem State.setTxPending_mem : (s.setTxPending v).mem = s.mem := rfl
@[simp] theorem State.setTxPending_irqLevel : (s.setTxPending v).irqLevel = s.irqLevel := rfl
@[simp] theorem State.setTxPending_txPending : (s.setTxPending v).txPending = v := rfl
@[simp] theorem State.setTxPending_asserts : (s.setTxPending v).asserts = s.asserts := rfl
@[simp] theorem State.setTxPending_sent : (s.setTxPending v).sent = s.sent := rfl
@[simp] theorem State.setTxPending_inputs : (s.setTxPending v).inputs = s.inputs := rfl
@[simp] theorem State.setTxPending_readData : (s.setTxPending v).readData = s.readData := rfl
@[simp] theorem State.setTxPending_draws : (s.setTxPending v).draws = s.draws := rfl
end

section
variable (v : List Nat)
@[simp] theorem State.setAsserts_cfg : (s.setAsserts v).cfg = s.cfg := rfl
@[simp] theorem State.setAsserts_irqLine : (s.setAsserts v).irqLine = s.irqLine := rfl
@[simp] theorem State.setAsserts_cr : (s.setAsserts v).cr = s.cr := rfl
@[simp] theorem State.setAsserts_isr : (s.setAsserts v).isr = s.isr := rfl
@[simp] theorem State.setAsserts_imr : (s.setAsserts v).imr = s.imr := rfl
@[simp] theorem State.setAsserts_dcr : (s.setAsserts v).dcr = s.dcr := rfl
@[simp] theorem State.setAsserts_tcr : (s.setAsserts v).tcr = s.tcr := rfl
@[simp] theorem State.setAsserts_tsr : (s.setAsserts v).tsr = s.tsr := rfl
@[simp] theorem State.setAsserts_rcr : (s.setAsserts v).rcr = s.rcr := rfl
@[simp] theorem State.setAsserts_rsr : (s.setAsserts v).rsr = s.rsr := rfl
@[simp] theorem State.setAsserts_pageStart : (s.setAsserts v).pageStart = s.pageStart := rfl
@[simp] theorem State.setAsserts_pageStop : (s.setAsserts v).pageStop = s.pageStop := rfl
@[simp] theorem State.setAsserts_boundPtr : (s.setAsserts v).boundPtr = s.boundPtr := rfl
@[simp] theorem State.setAsserts_currPage : (s.setAsserts v).currPage = s.currPage := rfl
@[simp] theorem State.setAsserts_remoteStart : (s.setAsserts v).remoteStart = s.remoteStart := rfl
@[simp] theorem State.setAsserts_remoteDma : (s.setAsserts v).remoteDma = s.remoteDma := rfl
@[simp] theorem State.setAsserts_remoteBytes : (s.setAsserts v).remoteBytes = s.remoteBytes := rfl
@[simp] theorem State.setAsserts_txPageStart : (s.setAsserts v).txPageStart = s.txPageStart := rfl
@[simp] theorem State.setAsserts_txBytes : (s.setAsserts v).txBytes = s.txBytes := rfl
@[simp] theorem State.setAsserts_localDma : (s.setAsserts v).localDma = s.localDma := rfl
@[simp] theorem State.setAsserts_numColl : (s.setAsserts v).numColl = s.numColl := rfl
@[simp] theorem State.setAsserts_fifo : (s.setAsserts v).fifo = s.fifo := rfl
@[simp] theorem State.setAsserts_tallycnt0 : (s.setAsserts v).tallycnt0 = s.tallycnt0 := rfl
@[simp] theorem State.setAsserts_tallycnt1 : (s.setAsserts v).tallycnt1 = s.tallycnt1 := rfl
@[simp] theorem State.setAsserts_tallycnt2 : (s.setAsserts v).tallycnt2 = s.tallycnt2 := rfl
@[simp] theorem State.setAsserts_physaddr : (s.setAsserts v).physaddr = s.physaddr := rfl
@[simp] theorem State.setAsserts_mchash : (s.setAsserts v).mchash = s.mchash := rfl
@[simp] theorem State.setAsserts_rempktPtr : (s.setAsserts v).rempktPtr = s.rempktPtr := rfl
@[simp] theorem State.setAsserts_localpktPtr : (s.setAsserts v).localpktPtr = s.localpktPtr := rfl
@[simp] theorem State.setAsserts_addressCnt : (s.setAsserts v).addressCnt = s.addressCnt := rfl
@[simp] theorem State.setAsserts_page3 : (s.setAsserts v).page3 = s.page3 := rfl
@[simp] theorem State.setAsserts_macaddr : (s.setAsserts v).macaddr = s.macaddr := rfl
@[simp] theorem State.setAsserts_mem : (s.setAsserts v).mem = s.mem := rfl
@[simp] theorem State.setAsserts_irqLevel : (s.setAsserts v).irqLevel = s.irqLevel := rfl
@[simp] theorem State.setAsserts_txPending : (s.setAsserts v).txPending = s.txPending := rfl
@[simp] theorem State.setAsserts_asserts : (s.setAsserts v).asserts = v := rfl
@[simp] theorem State.setAsserts_sent : (s.setAsserts v).sent = s.sent := rfl
@[simp] theorem State.setAsserts_inputs : (s.setAsserts v).inputs = s.inputs := rfl
@[simp] theorem State.setAsserts_readData : (s.setAsserts v).readData = s.readData := rfl
@[simp] theorem State.setAsserts_draws : (s.setAsserts v).draws = s.draws := rfl
end

section
variable (v : List (List Byte))
@[simp] theorem State.setSent_cfg : (s.setSent v).cfg = s.cfg := rfl
@[simp] theorem State.setSent_irqLine : (s.setSent v).irqLine = s.irqLine := rfl
@[simp] theorem State.setSent_cr : (s.setSent v).cr = s.cr := rfl
@[simp] theorem State.setSent_isr : (s.setSent v).isr = s.isr := rfl
@[simp] theorem State.setSent_imr : (s.setSent v).imr = s.imr := rfl
@[simp] theorem State.setSent_dcr : (s.setSent v).dcr = s.dcr := rfl
@[simp] theorem State.setSent_tcr : (s.setSent v).tcr = s.tcr := rfl
@[simp] theorem State.setSent_tsr : (s.setSent v).tsr = s.tsr := rfl
@[simp] theorem State.setSent_rcr : (s.setSent v).rcr = s.rcr := rfl
@[simp] theorem State.setSent_rsr : (s.setSent v).rsr = s.rsr := rfl
@[simp] theorem State.setSent_pageStart : (s.setSent v).pageStart = s.pageStart := rfl
@[simp] theorem State.setSent_pageStop : (s.setSent v).pageStop = s.pageStop := rfl
@[simp] theorem State.setSent_boundPtr : (s.setSent v).boundPtr = s.boundPtr := rfl
@[simp] theorem State.setSent_currPage : (s.setSent v).currPage = s.currPage := rfl
@[simp] theorem State.setSent_remoteStart : (s.setSent v).remoteStart = s.remoteStart := rfl
@[simp] theorem State.setSent_remoteDma : (s.setSent v).remoteDma = s.remoteDma := rfl
@[simp] theorem State.setSent_remoteBytes : (s.setSent v).remoteBytes = s.remoteBytes := rfl
@[simp] theorem State.setSent_txPageStart : (s.setSent v).txPageStart = s.txPageStart := rfl
@[simp] theorem State.setSent_txBytes : (s.setSent v).txBytes = s.txBytes := rfl
@[simp] theorem State.setSent_localDma : (s.setSent v).localDma = s.localDma := rfl
@[simp] theorem State.setSent_numColl : (s.setSent v).numColl = s.numColl := rfl
@[simp] theorem State.setSent_fifo : (s.setSent v).fifo = s.fifo := rfl
@[simp] theorem State.setSent_tallycnt0 : (s.setSent v).tallycnt0 = s.tallycnt0 := rfl
@[simp] theorem State.setSent_tallycnt1 : (s.setSent v).tallycnt1 = s.tallycnt1 := rfl
@[simp] theorem State.setSent_tallycnt2 : (s.setSent v).tallycnt2 = s.tallycnt2 := rfl
@[simp] theorem State.setSent_physaddr : (s.setSent v).physaddr = s.physaddr := rfl
@[simp] theorem State.setSent_mchash : (s.setSent v).mchash = s.mchash := rfl
@[simp] theorem State.setSent_rempktPtr : (s.setSent v).rempktPtr = s.rempktPtr := rfl
@[simp] theorem State.setSent_localpktPtr : (s.setSent v).localpktPtr = s.localpktPtr := rfl
@[simp] theorem State.setSent_addressCnt : (s.setSent v).addressCnt = s.addressCnt := rfl
@[simp] theorem State.setSent_page3 : (s.setSent v).page3 = s.page3 := rfl
@[simp] theorem State.setSent_macaddr : (s.setSent v).macaddr = s.macaddr := rfl
@[simp] theorem State.setSent_mem : (s.setSent v).mem = s.mem := rfl
@[simp] theorem State.setSent_irqLevel : (s.setSent v).irqLevel = s.irqLevel := rfl
@[simp] theorem State.setSent_txPending : (s.setSent v).txPending = s.txPending := rfl
@[simp] theorem State.setSent_asserts : (s.setSent v).asserts = s.asserts := rfl
@[simp] theorem State.setSent_sent : (s.setSent v).sent = v := rfl
@[simp] theorem State.setSent_inputs : (s.setSent v).inputs = s.inputs := rfl
@[simp] theorem State.setSent_readData : (s.setSent v).readData = s.readData := rfl
@[simp] theorem State.setSent_draws : (s.setSent v).draws = s.draws := rfl
end

section
variable (v : List Event)
@[simp] theorem State.setInputs_cfg : (s.setInputs v).cfg = s.cfg := rfl
@[simp] theorem State.setInputs_irqLine : (s.setInputs v).irqLine = s.irqLine := rfl
@[simp] theorem State.setInputs_cr : (s.setInputs v).cr = s.cr := rfl
@[simp] theorem State.setInputs_isr : (s.setInputs v).isr = s.isr := rfl
@[simp] theorem State.setInputs_imr : (s.setInputs v).imr = s.imr := rfl
@[simp] theorem State.setInputs_dcr : (s.setInputs v).dcr = s.dcr := rfl
@[simp] theorem State.setInputs_tcr : (s.setInputs v).tcr = s.tcr := rfl
@[simp] theorem State.setInputs_tsr : (s.setInputs v).tsr = s.tsr := rfl
@[simp] theorem State.setInputs_rcr : (s.setInputs v).rcr = s.rcr := rfl
@[simp] theorem State.setInputs_rsr : (s.setInputs v).rsr = s.rsr := rfl
@[simp] theorem State.setInputs_pageStart : (s.setInputs v).pageStart = s.pageStart := rfl
@[simp] theorem State.setInputs_pageStop : (s.setInputs v).pageStop = s.pageStop := rfl
@[simp] theorem State.setInputs_boundPtr : (s.setInputs v).boundPtr = s.boundPtr := rfl
@[simp] theorem State.setInputs_currPage : (s.setInputs v).currPage = s.currPage := rfl
@[simp] theorem State.setInputs_remoteStart : (s.setInputs v).remoteStart = s.remoteStart := rfl
@[simp] theorem State.setInputs_remoteDma : (s.setInputs v).remoteDma = s.remoteDma := rfl
@[simp] theorem State.setInputs_remoteBytes : (s.setInputs v).remoteBytes = s.remoteBytes := rfl
@[simp] theorem State.setInputs_txPageStart : (s.setInputs v).txPageStart = s.txPageStart := rfl
@[simp] theorem State.setInputs_txBytes : (s.setInputs v).txBytes = s.txBytes := rfl
@[simp] theorem State.setInputs_localDma : (s.setInputs v).localDma = s.localDma := rfl
@[simp] theorem State.setInputs_numColl : (s.setInputs v).numColl = s.numColl := rfl
@[simp] theorem State.setInputs_fifo : (s.setInputs v).fifo = s.fifo := rfl
@[simp] theorem State.setInputs_tallycnt0 : (s.setInputs v).tallycnt0 = s.tallycnt0 := rfl
@[simp] theorem State.setInputs_tallycnt1 : (s.setInputs v).tallycnt1 = s.tallycnt1 := rfl
@[simp] theorem State.setInputs_tallycnt2 : (s.setInputs v).tallycnt2 = s.tallycnt2 := rfl
@[simp] theorem State.setInputs_physaddr : (s.setInputs v).physaddr = s.physaddr := rfl
@[simp] theorem State.setInputs_mchash : (s.setInputs v).mchash = s.mchash := rfl
@[simp] theorem State.setInputs_rempktPtr : (s.setInputs v).rempktPtr = s.rempktPtr := rfl
@[simp] theorem State.setInputs_localpktPtr : (s.setInputs v).localpktPtr = s.localpktPtr := rfl
@[simp] theorem State.setInputs_addressCnt : (s.setInputs v).addressCnt = s.addressCnt := rfl
@[simp] theorem State.setInputs_page3 : (s.setInputs v).page3 = s.page3 := rfl
@[simp] theorem State.setInputs_macaddr : (s.setInputs v).macaddr = s.macaddr := rfl
@[simp] theorem State.setInputs_mem : (s.setInputs v).mem = s.mem := rfl
@[simp] theorem State.setInputs_irqLevel : (s.setInputs v).irqLevel = s.irqLevel := rfl
@[simp] theorem State.setInputs_txPending : (s.setInputs v).txPending = s.txPending := rfl
@[simp] theorem State.setInputs_asserts : (s.setInputs v).asserts = s.asserts := rfl
@[simp] theorem State.setInputs_sent : (s.setInputs v).sent = s.sent := rfl
@[simp] theorem State.setInputs_inputs : (s.setInputs v).inputs = v := rfl
@[simp] theorem State.setInputs_readData : (s.setInputs v).readData = s.readData := rfl
@[simp] theorem State.setInputs_draws : (s.setInputs v).draws = s.draws := rfl
end

section
variable (v : Option Byte)
@[simp] theorem State.setReadData_cfg : (s.setReadData v).cfg = s.cfg := rfl
@[simp] theorem State.setReadData_irqLine : (s.setReadData v).irqLine = s.irqLine := rfl
@[simp] theorem State.setReadData_cr : (s.setReadData v).cr = s.cr := rfl
@[simp] theorem State.setReadData_isr : (s.setReadData v).isr = s.isr := rfl
@[simp] theorem State.setReadData_imr : (s.setReadData v).imr = s.imr := rfl
@[simp] theorem State.setReadData_dcr : (s.setReadData v).dcr = s.dcr := rfl
@[simp] theorem State.setReadData_tcr : (s.setReadData v).tcr = s.tcr := rfl
@[simp] theorem State.setReadData_tsr : (s.setReadData v).tsr = s.tsr := rfl
@[simp] theorem State.setReadData_rcr : (s.setReadData v).rcr = s.rcr := rfl
@[simp] theorem State.setReadData_rsr : (s.setReadData v).rsr = s.rsr := rfl
@[simp] theorem State.setReadData_pageStart : (s.setReadData v).pageStart = s.pageStart := rfl
@[simp] theorem State.setReadData_pageStop : (s.setReadData v).pageStop = s.pageStop := rfl
@[simp] theorem State.setReadData_boundPtr : (s.setReadData v).boundPtr = s.boundPtr := rfl
@[simp] theorem State.setReadData_currPage : (s.setReadData v).currPage = s.currPage := rfl
@[simp] theorem State.setReadData_remoteStart : (s.setReadData v).remoteStart = s.remoteStart := rfl
@[simp] theorem State.setReadData_remoteDma : (s.setReadData v).remoteDma = s.remoteDma := rfl
@[simp] theorem State.setReadData_remoteBytes : (s.setReadData v).remoteBytes = s.remoteBytes := rfl
@[simp] theorem State.setReadData_txPageStart : (s.setReadData v).txPageStart = s.txPageStart := rfl
@[simp] theorem State.setReadData_txBytes : (s.setReadData v).txBytes = s.txBytes := rfl
@[simp] theorem State.setReadData_localDma : (s.setReadData v).localDma = s.localDma := rfl
@[simp] theorem State.setReadData_numColl : (s.setReadData v).numColl = s.numColl := rfl
@[simp] theorem State.setReadData_fifo : (s.setReadData v).fifo = s.fifo := rfl
@[simp] theorem State.setReadData_tallycnt0 : (s.setReadData v).tallycnt0 = s.tallycnt0 := rfl
@[simp] theorem State.setReadData_tallycnt1 : (s.setReadData v).tallycnt1 = s.tallycnt1 := rfl
@[simp] theorem State.setReadData_tallycnt2 : (s.setReadData v).tallycnt2 = s.tallycnt2 := rfl
@[simp] theorem State.setReadData_physaddr : (s.setReadData v).physaddr = s.physaddr := rfl
@[simp] theorem State.setReadData_mchash : (s.setReadData v).mchash = s.mchash := rfl
@[simp] theorem State.setReadData_rempktPtr : (s.setReadData v).rempktPtr = s.rempktPtr := rfl
@[simp] theorem State.setReadData_localpktPtr : (s.setReadData v).localpktPtr = s.localpktPtr := rfl
@[simp] theorem State.setReadData_addressCnt : (s.setReadData v).addressCnt = s.addressCnt := rfl
@[simp] theorem State.setReadData_page3 : (s.setReadData v).page3 = s.page3 := rfl
@[simp] theorem State.setReadData_macaddr : (s.setReadData v).macaddr = s.macaddr := rfl
@[simp] theorem State.setReadData_mem : (s.setReadData v).mem = s.mem := rfl
@[simp] theorem State.setReadData_irqLevel : (s.setReadData v).irqLevel = s.irqLevel := rfl
@[simp] theorem State.setReadData_txPending : (s.setReadData v).txPending = s.txPending := rfl
@[simp] theorem State.setReadData_asserts : (s.setReadData v).asserts = s.asserts := rfl
@[simp] theorem State.setReadData_sent : (s.setReadData v).sent = s.sent := rfl
@[simp] theorem State.setReadData_inputs : (s.setReadData v).inputs = s.inputs := rfl
@[simp] theorem State.setReadData_readData : (s.setReadData v).readData = v := rfl
@[simp] theorem State.setReadData_draws : (s.setReadData v).draws = s.draws := rfl
end

section
variable (v : Nat)
@[simp] theorem State.setDraws_cfg : (s.setDraws v).cfg = s.cfg := rfl
@[simp] theorem State.setDraws_irqLine : (s.setDraws v).irqLine = s.irqLine := rfl
@[simp] theorem State.setDraws_cr : (s.setDraws v).cr = s.cr := rfl
@[simp] theorem State.setDraws_isr : (s.setDraws v).isr = s.isr := rfl
@[simp] theorem State.setDraws_imr : (s.setDraws v).imr = s.imr := rfl
@[simp] theorem State.setDraws_dcr : (s.setDraws v).dcr = s.dcr := rfl
@[simp] theorem State.setDraws_tcr : (s.setDraws v).tcr = s.tcr := rfl
@[simp] theorem State.setDraws_tsr : (s.setDraws v).tsr = s.tsr := rfl
@[simp] theorem State.setDraws_rcr : (s.setDraws v).rcr = s.rcr := rfl
@[simp] theorem State.setDraws_rsr : (s.setDraws v).rsr = s.rsr := rfl
@[simp] theorem State.setDraws_pageStart : (s.setDraws v).pageStart = s.pageStart := rfl
@[simp] theorem State.setDraws_pageStop : (s.setDraws v).pageStop = s.pageStop := rfl
@[simp] theorem State.setDraws_boundPtr : (s.setDraws v).boundPtr = s.boundPtr := rfl
@[simp] theorem State.setDraws_currPage : (s.setDraws v).currPage = s.currPage := rfl
@[simp] theorem State.setDraws_remoteStart : (s.setDraws v).remoteStart = s.remoteStart := rfl
@[simp] theorem State.setDraws_remoteDma : (s.setDraws v).remoteDma = s.remoteDma := rfl
@[simp] theorem State.setDraws_remoteBytes : (s.setDraws v).remoteBytes = s.remoteBytes := rfl
@[simp] theorem State.setDraws_txPageStart : (s.setDraws v).txPageStart = s.txPageStart := rfl
@[simp] theorem State.setDraws_txBytes : (s.setDraws v).txBytes = s.txBytes := rfl
@[simp] theorem State.setDraws_localDma : (s.setDraws v).localDma = s.localDma := rfl
@[simp] theorem State.setDraws_numColl : (s.setDraws v).numColl = s.numColl := rfl
@[simp] theorem State.setDraws_fifo : (s.setDraws v).fifo = s.fifo := rfl
@[simp] theorem State.setDraws_tallycnt0 : (s.setDraws v).tallycnt0 = s.tallycnt0 := rfl
@[simp] theorem State.setDraws_tallycnt1 : (s.setDraws v).tallycnt1 = s.tallycnt1 := rfl
@[simp] theorem State.setDraws_tallycnt2 : (s.setDraws v).tallycnt2 = s.tallycnt2 := rfl
@[simp] theorem State.setDraws_physaddr : (s.setDraws v).physaddr = s.physaddr := rfl
@[simp] theorem State.setDraws_mchash : (s.setDraws v).mchash = s.mchash := rfl
@[simp] theorem State.setDraws_rempktPtr : (s.setDraws v).rempktPtr = s.rempktPtr := rfl
@[simp] theorem State.setDraws_localpktPtr : (s.setDraws v).localpktPtr = s.localpktPtr := rfl
@[simp] theorem State.setDraws_addressCnt : (s.setDraws v).addressCnt = s.addressCnt := rfl
@[simp] theorem State.setDraws_page3 : (s.setDraws v).page3 = s.page3 := rfl
@[simp] theorem State.setDraws_macaddr : (s.setDraws v).macaddr = s.macaddr := rfl
@[simp] theorem State.setDraws_mem : (s.setDraws v).mem = s.mem := rfl
@[simp] theorem State.setDraws_irqLevel : (s.setDraws v).irqLevel = s.irqLevel := rfl
@[simp] theorem State.setDraws_txPending : (s.setDraws v).txPending = s.txPending := rfl
@[simp] theorem State.setDraws_asserts : (s.setDraws v).asserts = s.asserts := rfl
@[simp] theorem State.setDraws_sent : (s.setDraws v).sent = s.sent := rfl
@[simp] theorem State.setDraws_inputs : (s.setDraws v).inputs = s.inputs := rfl
@[simp] theorem State.setDraws_readData : (s.setDraws v).readData = s.readData := rfl
@[simp] theorem State.setDraws_draws : (s.setDraws v).draws = v := rfl
end

end Sys2Proof.Machine
end

