-- ==== Sys2Proof/Laws/Ops.lean ====
section
/-! SUPPORT. One lemma for each shared operation that says everything it does, as one record update or one equation; proofs cite these instead of unfolding the operations. -/

namespace Sys2Proof.Machine

variable (s : State)

/-! ### Outputs and flags -/

theorem assertIrq_eq : assertIrq s = { s with asserts := s.asserts ++ [s.irqLine], irqLevel := true } := rfl

theorem assertIrqIf_eq (c : Bool) :
    assertIrqIf c s =
      { s with asserts := s.asserts ++ (if c then [s.irqLine] else []), irqLevel := s.irqLevel || c } := by
  cases c <;> simp [assertIrqIf, assertIrq_eq]

theorem raiseReset_eq : raiseReset s = { s with isr := { s.isr with reset := true } } := rfl

theorem raiseRdmaDone_eq :
    raiseRdmaDone s =
      { s with
        isr := { s.isr with rdmaDone := true }
        asserts := s.asserts ++ (if s.imr.rdmaInte then [s.irqLine] else [])
        irqLevel := s.irqLevel || s.imr.rdmaInte } := by
  simp only [raiseRdmaDone, assertIrqIf_eq, State.setIsr]

theorem raisePktRx_eq :
    raisePktRx s =
      { s with
        isr := { s.isr with pktRx := true }
        asserts := s.asserts ++ (if s.imr.rxInte then [s.irqLine] else [])
        irqLevel := s.irqLevel || s.imr.rxInte } := by
  simp only [raisePktRx, assertIrqIf_eq, State.setIsr]

theorem raisePktTx_eq :
    raisePktTx s =
      { s with
        isr := { s.isr with pktTx := true }
        asserts := s.asserts ++ (if s.imr.txInte && !s.isr.pktTx then [s.irqLine] else [])
        irqLevel := s.irqLevel || (s.imr.txInte && !s.isr.pktTx) } := by
  simp only [raisePktTx, assertIrqIf_eq, State.setIsr]

theorem lowerIrq_eq : lowerIrq s = { s with irqLevel := s.irqLevel && maskedStatus s != 0#8 } := by
  unfold lowerIrq
  split
  · next h => simp [h, State.setIrqLevel]
  · next h =>
    have hb : (maskedStatus s == 0#8) = false := by simpa using h
    simp [bne, hb]

theorem clearIsr_eq (v : Byte) : clearIsr v s = { s with isr := Isr.ofByte (s.isr.toByte &&& ~~~v) } := rfl

/-! ### Remote DMA -/

theorem accessLength_cases : accessLength s = 1 ∨ accessLength s = 2 := by
  unfold accessLength
  split <;> simp

/-- Everything `DmaAdvance` does (R204, R205). -/
theorem dmaAdvance_eq (n : Nat) :
    dmaAdvance n s =
      { s with
        remoteDma := advancedAddress n s
        remoteBytes := countedDown n s
        isr := { s.isr with rdmaDone := s.isr.rdmaDone || countedDown n s == 0#16 }
        asserts := s.asserts ++ (if s.imr.rdmaInte && countedDown n s == 0#16 then [s.irqLine] else [])
        irqLevel := s.irqLevel || (s.imr.rdmaInte && countedDown n s == 0#16) } := by
  have hc : countedDown n (s.setRemoteDma (advancedAddress n s)) = countedDown n s := rfl
  simp only [dmaAdvance, hc, State.setRemoteBytes_remoteBytes]
  split
  · next h => simp [raiseRdmaDone_eq, h, State.setRemoteBytes, State.setRemoteDma]
  · next h =>
    have hb : (countedDown n s == 0#16) = false := by simpa using h
    simp [hb, State.setRemoteBytes, State.setRemoteDma]

theorem loadRemoteStart_eq (w : Word) : loadRemoteStart w s = { s with remoteStart := w, remoteDma := w } := rfl

theorem irqProbe_eq :
    irqProbe s =
      { s with
        isr := { s.isr with rdmaDone := s.isr.rdmaDone || probeDue s }
        asserts := s.asserts ++ (if s.imr.rdmaInte && probeDue s then [s.irqLine] else [])
        irqLevel := s.irqLevel || (s.imr.rdmaInte && probeDue s) } := by
  unfold irqProbe
  split
  · next h => simp [raiseRdmaDone_eq, h]
  · next h => simp [h]

/-- The send-packet command touches the remote-DMA registers alone (R208). -/
theorem sendPacketCommand_eq :
    sendPacketCommand s =
      { s with
        remoteStart := (sendPacketCommand s).remoteStart
        remoteDma := (sendPacketCommand s).remoteDma
        remoteBytes := (sendPacketCommand s).remoteBytes } := by
  have h : sendPacketCommand s = s ∨
      sendPacketCommand s = (loadRemoteStart (pageWord s.boundPtr) s).setRemoteBytes (chipRead16 s (pageAddr s.boundPtr + 2)) := by
    unfold sendPacketCommand
    split
    · cases s.cfg.sendpktMode <;> simp
    · simp
  rcases h with h | h
  · rw [h]
  · rw [h]
    rfl

/-! ### Receive -/

/-- A ring copy reads the pointers and parameters of its state, not its memory (R235). -/
theorem ringWrite_setMem (m k : Memory) (i : Nat) (bytes : List Byte) :
    ringWrite (s.setMem m) k i bytes = ringWrite s k i bytes := by
  induction bytes generalizing k i with
  | nil => rfl
  | cons b rest ih => exact ih _ _

/-- The memory an accepted frame leaves: header and padded frame, then the four free bytes (R235, R236). -/
def storedMemory (frame : List Byte) (s : State) : Memory :=
  ringWrite s
    (ringWrite s s.mem 0
      (header (destination (padded frame)) (nextPage s (pagesRequired frame.length)) (padded frame).length ++
        padded frame))
    (4 + (padded frame).length) (crcSlotBytes s)

/-- The ring part of `storeFrame`: copy and CRC slot (R235, R236). -/
theorem ringFill_ringCopy (data : List Byte) (plen : Nat) :
    ringFillCrcSlot plen (ringCopy data s) =
      { s with
        mem := ringWrite s (ringWrite s s.mem 0 data) (4 + plen) (crcSlotBytes s)
        draws := s.draws + 4 } := by
  simp only [ringFillCrcSlot, ringCopy, ringWrite_setMem, State.setMem_mem, afterDraws]
  rfl

/-- Everything an accepted frame does (R220 from `nextpage` on). -/
theorem storeFrame_eq (frame : List Byte) :
    storeFrame frame s =
      { s with
        mem := storedMemory frame s
        draws := s.draws + 4
        currPage := BitVec.ofInt 8 (nextPage s (pagesRequired frame.length))
        rsr := { s.rsr with rxOk := true, rxMbit := s.rsr.rxMbit || isMulticast (destination (padded frame)) }
        isr := { s.isr with pktRx := true }
        asserts := s.asserts ++ (if s.imr.rxInte then [s.irqLine] else [])
        irqLevel := s.irqLevel || s.imr.rxInte } := by
  simp only [storeFrame, ringFill_ringCopy, raisePktRx_eq, raiseRxOk, storedMemory, State.setRsr, State.setCurrPage]

/-- Everything the acceptance of a frame looks at: `CR.stop`, the ring pointers, RCR and the two address filters. -/
theorem acceptsFrame_congr {t : State} (frame : List Byte) (hstop : t.cr.stop = s.cr.stop)
    (hstart : t.pageStart = s.pageStart) (hend : t.pageStop = s.pageStop) (hbound : t.boundPtr = s.boundPtr)
    (hcurr : t.currPage = s.currPage) (hrcr : t.rcr = s.rcr) (hhash : t.mchash = s.mchash)
    (haddr : t.physaddr = s.physaddr) : acceptsFrame t frame = acceptsFrame s frame := by
  simp [acceptsFrame, acceptsAddress, freePages, hstop, hstart, hend, hbound, hcurr, hrcr, hhash, haddr]

/-- A frame is dropped and nothing changes, or it is accepted and stored (R220, R240). -/
theorem receive_cases (frame : List Byte) :
    (acceptsFrame s frame = false ∧ receive frame s = s) ∨
    (acceptsFrame s frame = true ∧ receive frame s = storeFrame frame s) := by
  unfold receive
  cases h : acceptsFrame s frame <;> simp

theorem storedMemory_wf (frame : List Byte) (h : Memory.wf s.mem) : Memory.wf (storedMemory frame s) :=
  ringWrite_wf (ringWrite_wf h _ _) _ _

/-- Everything a frame delivery does, accepted or not (R220, R240). -/
theorem receive_eq (frame : List Byte) :
    receive frame s =
      { s with
        mem := if acceptsFrame s frame then storedMemory frame s else s.mem
        draws := if acceptsFrame s frame then s.draws + 4 else s.draws
        currPage :=
          if acceptsFrame s frame then BitVec.ofInt 8 (nextPage s (pagesRequired frame.length)) else s.currPage
        rsr :=
          if acceptsFrame s frame then
            { s.rsr with rxOk := true, rxMbit := s.rsr.rxMbit || isMulticast (destination (padded frame)) }
          else s.rsr
        isr := { s.isr with pktRx := s.isr.pktRx || acceptsFrame s frame }
        asserts := s.asserts ++ (if acceptsFrame s frame && s.imr.rxInte then [s.irqLine] else [])
        irqLevel := s.irqLevel || (acceptsFrame s frame && s.imr.rxInte) } := by
  rcases receive_cases s frame with ⟨h, e⟩ | ⟨h, e⟩ <;> simp [h, e, storeFrame_eq]

/-- The memory an accepted frame leaves differs only at the ring positions of header, padded frame and CRC slot (R235, R236). -/
theorem storedMemory_read (h : Memory.wf s.mem) (frame : List Byte) {a : Int} (hb : backed s.cfg a = true)
    (hn : ∀ n, n < (padded frame).length + 8 → ringAddr s n ≠ a) :
    Memory.read (storedMemory frame s) (a - s.cfg.memStart).toNat = Memory.read s.mem (a - s.cfg.memStart).toNat := by
  rw [storedMemory, ringWrite_read_of_ne (ringWrite_wf h _ _) _ _ hb, ringWrite_read_of_ne h _ _ hb]
  · intro n _ h2
    simp only [header, List.length_append, List.length_cons, List.length_nil] at h2
    exact hn n (by omega)
  · intro n _ h2
    simp only [crcSlotBytes, List.length_cons, List.length_nil] at h2
    exact hn n (by omega)

/-! ### Transmit -/

/-- Everything `TxComplete()` does (R256). -/
theorem txComplete_eq :
    txComplete s =
      { s with
        tsr := { s.tsr with txOk := true }
        isr := { s.isr with pktTx := true }
        asserts := s.asserts ++ (if s.imr.txInte && !s.isr.pktTx then [s.irqLine] else [])
        irqLevel := s.irqLevel || (s.imr.txInte && !s.isr.pktTx)
        cr := { s.cr with txPacket := false }
        txPending := false } := by
  simp only [txComplete, setTransmitting, raisePktTx_eq, raiseTxOk, State.setCr, State.setTxPending, State.setTsr]

/-- An external transmission that completes at once (R254, R256). -/
theorem externalTransmit_eq_sync (h : s.cfg.txDeferred = false) :
    externalTransmit s =
      { s with
        sent := s.sent ++ [txRegion s]
        tsr := { s.tsr with txOk := true }
        isr := { s.isr with pktTx := true }
        asserts := s.asserts ++ (if s.imr.txInte && !s.isr.pktTx then [s.irqLine] else [])
        irqLevel := s.irqLevel || (s.imr.txInte && !s.isr.pktTx)
        cr := { s.cr with txPacket := false }
        txPending := false } := by
  simp [externalTransmit, transportSend, setTransmitting, txComplete_eq, h, State.setSent, State.setCr, State.setTxPending]

/-- An external transmission whose completion is deferred (R254). -/
theorem externalTransmit_eq_deferred (h : s.cfg.txDeferred = true) :
    externalTransmit s =
      { s with sent := s.sent ++ [txRegion s], cr := { s.cr with txPacket := true }, txPending := true } := by
  simp [externalTransmit, transportSend, setTransmitting, h, State.setSent, State.setCr, State.setTxPending]

/-- Everything a loopback transmission does (R252). -/
theorem loopbackTransmit_eq :
    loopbackTransmit s =
      { s with
        mem := if acceptsFrame s (txRegion s) then storedMemory (txRegion s) s else s.mem
        draws := if acceptsFrame s (txRegion s) then s.draws + 4 else s.draws
        currPage :=
          if acceptsFrame s (txRegion s) then BitVec.ofInt 8 (nextPage s (pagesRequired (txRegion s).length))
          else s.currPage
        rsr :=
          if acceptsFrame s (txRegion s) then
            { s.rsr with rxOk := true, rxMbit := s.rsr.rxMbit || isMulticast (destination (padded (txRegion s))) }
          else s.rsr
        isr := { s.isr with pktRx := s.isr.pktRx || acceptsFrame s (txRegion s), pktTx := true }
        asserts :=
          s.asserts ++ (if acceptsFrame s (txRegion s) && s.imr.rxInte then [s.irqLine] else []) ++
            (if s.imr.txInte && !s.isr.pktTx then [s.irqLine] else [])
        irqLevel :=
          s.irqLevel || (acceptsFrame s (txRegion s) && s.imr.rxInte) || (s.imr.txInte && !s.isr.pktTx) } := by
  rw [loopbackTransmit, receive_eq, raisePktTx_eq]

/-- Everything a transmit start can answer (R251 to R254, R258). -/
theorem transmitStart_cases :
    (s.tcr.loopCntl = 0#2 ∧ s.txPending = true ∧ transmitStart s = .fault .txOverlap) ∨
    (s.tcr.loopCntl = 0#2 ∧ s.txPending = false ∧ transmitStart s = .next (externalTransmit s)) ∨
    (s.tcr.loopCntl = 1#2 ∧ transmitStart s = .next (loopbackTransmit s)) ∨
    (s.tcr.loopCntl ≠ 0#2 ∧ s.tcr.loopCntl ≠ 1#2 ∧ transmitStart s = .next s) := by
  unfold transmitStart
  by_cases h0 : s.tcr.loopCntl = 0#2
  · cases hp : s.txPending <;> simp [h0]
  · by_cases h1 : s.tcr.loopCntl = 1#2
    · simp [h1]
    · simp [h0, h1]

/-! ### The command register -/

/-- The fields a CR write stores (R112). -/
theorem storeCommand_eq (v : Byte) :
    storeCommand v s =
      { s with
        isr := { s.isr with reset := s.isr.reset || v.getLsbD 0 }
        cr :=
          { pgsel := v.extractLsb' 6 2
            rdmaCmd := v.extractLsb' 3 3
            txPacket := s.cr.txPacket
            start := v.getLsbD 1
            stop := v.getLsbD 0 } } := by
  unfold storeCommand
  cases h : v.getLsbD 0 <;> simp [raiseReset_eq, State.setCr]

/-- What a CR write stores, in the bits of the byte written (R112). -/
theorem storeCommand_coerceCommand (v : Byte) :
    storeCommand (coerceCommand v) s =
      { s with
        isr := { s.isr with reset := s.isr.reset || v.getLsbD 0 }
        cr :=
          { pgsel := v.extractLsb' 6 2
            rdmaCmd := if v.extractLsb' 3 3 = 0#3 then 4#3 else v.extractLsb' 3 3
            txPacket := s.cr.txPacket
            start := v.getLsbD 1
            stop := v.getLsbD 0 } } := by
  obtain ⟨h1, h2, -, h4, h5⟩ : (coerceCommand v).extractLsb' 6 2 = v.extractLsb' 6 2 ∧
      (coerceCommand v).extractLsb' 3 3 = (if v.extractLsb' 3 3 = 0#3 then 4#3 else v.extractLsb' 3 3) ∧
      (coerceCommand v).getLsbD 2 = v.getLsbD 2 ∧ (coerceCommand v).getLsbD 1 = v.getLsbD 1 ∧
      (coerceCommand v).getLsbD 0 = v.getLsbD 0 := by
    revert v
    decide
  rw [storeCommand_eq, h1, h2, h4, h5]

/-- A coerced CR byte never holds a zero `rdma_cmd` (R112). -/
theorem coerceCommand_rdmaCmd (v : Byte) : (coerceCommand v).extractLsb' 3 3 ≠ 0#3 := by revert v; decide

/-- Coercion changes the `rdma_cmd` field alone, and only a zero one (R112). -/
theorem coerceCommand_fields (v : Byte) :
    (coerceCommand v).extractLsb' 6 2 = v.extractLsb' 6 2 ∧
    (coerceCommand v).extractLsb' 3 3 = (if v.extractLsb' 3 3 = 0#3 then 4#3 else v.extractLsb' 3 3) ∧
    (coerceCommand v).getLsbD 2 = v.getLsbD 2 ∧
    (coerceCommand v).getLsbD 1 = v.getLsbD 1 ∧
    (coerceCommand v).getLsbD 0 = v.getLsbD 0 := by
  revert v
  decide

theorem andThen_eq_next {o : Host.Outcome State Fault Refusal} {f : State → State} {t : State} :
    andThen o f = .next t ↔ ∃ u, o = .next u ∧ f u = t := by
  cases o <;> simp [andThen]

/-! ### Reset and init -/

/-- Everything `Reset()` leaves (R290, R47); the fields not named here survive (R294). -/
theorem resetBlock_eq :
    resetBlock s =
      { s with
        cr := { rdmaCmd := 4, stop := true }, isr := { reset := true }, imr := {}, dcr := { longaddr := true }
        tcr := {}, tsr := {}, rcr := {}, rsr := {}
        pageStart := 0, pageStop := 0, boundPtr := 0, currPage := 0
        remoteStart := 0, remoteDma := 0, remoteBytes := 0
        txPageStart := 0, txBytes := 0
        localDma := 0, numColl := 0, fifo := 0, tallycnt0 := 0, tallycnt1 := 0, tallycnt2 := 0
        rempktPtr := 0, localpktPtr := 0, addressCnt := 0
        page3 := {}
        macaddr := promOf s.physaddr
        mem := []
        irqLevel := false, txPending := false } := rfl

/-- `init` is a reset of a block whose address and line are bound and whose hash table is zero (R291). -/
theorem initBlock_eq (mac : Mac) (irq : Nat) :
    initBlock mac irq s =
      { resetBlock s with
        irqLine := irq, physaddr := mac, mchash := #v[0, 0, 0, 0, 0, 0, 0, 0], macaddr := promOf mac } := rfl

/-- `State.reset` is what `init 52:54:00:12:34:56, 9` leaves. -/
theorem initBlock_reset :
    initBlock #v[0x52, 0x54, 0x00, 0x12, 0x34, 0x56] 9 State.reset = State.reset := rfl

end Sys2Proof.Machine
end

