-- ==== Sys2Proof/Laws/Bus.lean ====
section
/-! SUPPORT. How events run one after the other, and which access a port of the block reaches: proofs about programs of R106 and R107 cite these instead of unfolding the bus. -/

namespace Sys2Proof.Machine

@[simp] theorem performAll_nil (s : State) : performAll [] s = .next (s, []) := rfl

/-- `performAll` is the step function: each event is the one the next step takes. -/
theorem performAll_cons_step (e : Event) (rest : List Event) (s : State) :
    performAll (e :: rest) s =
      match step { s with inputs := e :: s.inputs } with
      | .next t =>
        match performAll rest t with
        | .next (u, bytes) => .next (u, t.readData.toList ++ bytes)
        | .fault r => .fault r
        | .refused r => .refused r
      | .fault r => .fault r
      | .refused r => .refused r := rfl

/-- One event that answers a next state, then the others. -/
theorem performAll_cons_of_next {e : Event} {rest : List Event} {s t u : State} {bytes : List Byte}
    (h : perform e (takeEvent s.inputs s) = .next t) (hr : performAll rest t = .next (u, bytes)) :
    performAll (e :: rest) s = .next (u, t.readData.toList ++ bytes) := by
  simp only [performAll, h, hr]

@[simp] theorem takeEvent_cfg (rest : List Event) (s : State) : (takeEvent rest s).cfg = s.cfg := rfl
@[simp] theorem takeEvent_inputs (rest : List Event) (s : State) : (takeEvent rest s).inputs = rest := rfl
@[simp] theorem takeEvent_readData (rest : List Event) (s : State) : (takeEvent rest s).readData = none := rfl

theorem claimedOffset_own (c : Config) (off : BitVec 5) : claimedOffset c (c.ioBase + off.toNat) = some off := by
  have h := off.isLt
  rw [claimedOffset, if_pos ⟨by omega, by omega⟩, Nat.add_sub_cancel_left, BitVec.ofNat_toNat, BitVec.setWidth_eq]

/-- A read at a port of the block runs the cycle of its offset. -/
@[simp] theorem perform_inb (off : BitVec 5) (s : State) :
    perform (inb s.cfg off) s = runCycle (readCycle s off) s := by
  simp only [inb, perform, busCycle, claimedOffset_own]

/-- A write at a port of the block runs the cycle of its offset. -/
@[simp] theorem perform_outb (off : BitVec 5) (v : Byte) (s : State) :
    perform (outb s.cfg off v) s = runCycle (writeCycle s off v) s := by
  simp only [outb, perform, busCycle, claimedOffset_own]

@[simp] theorem descriptorIsWrite_descriptor (d : Bool) (pp : BitVec 2) (off : BitVec 5) :
    descriptorIsWrite (descriptor d pp off) = d := by
  revert d pp off; decide

/-- What a read cycle runs: the access of its descriptor, a read. -/
theorem readCycle_decodes (pp : BitVec 2) (off : BitVec 5) :
    ∃ i, decodeAccess (descriptor false pp off) 0#8 = some i ∧ i.dataByte = none := by
  have h : (decodeAccess (descriptor false pp off) 0#8).any (fun i => i.dataByte.isNone) = true := by
    revert pp off; decide
  obtain ⟨i, hi, hn⟩ := Option.any_eq_true _ _ |>.mp h
  exact ⟨i, hi, by simpa using hn⟩

/-- Every read access answers a next state and returns a byte; the parameters and the queue stay. -/
theorem exec_read {i : Instr} (h : i.dataByte = none) (s : State) :
    ∃ t b, exec i s = .next t ∧ t.readData = some b ∧ t.cfg = s.cfg ∧ t.inputs = s.inputs := by
  cases i
  case rdReset => exact ⟨_, _, rfl, rfl, rfl, rfl⟩
  case rdData10 | rdData11 | rdData12 | rdData13 | rdData14 | rdData15 | rdData16 | rdData17 | rdData18 | rdData19 |
      rdData1a | rdData1b | rdData1c | rdData1d | rdData1e =>
    refine ⟨_, _, rfl, rfl, ?_, ?_⟩ <;> simp [dmaAdvance_eq]
  all_goals first | cases h; done | exact ⟨_, _, rfl, rfl, rfl, rfl⟩

/-- A read event at a port of the block returns a byte; the parameters and the queue stay. -/
theorem perform_inb_next (off : BitVec 5) (s : State) :
    ∃ t b, perform (inb s.cfg off) s = .next t ∧ t.readData = some b ∧ t.cfg = s.cfg ∧ t.inputs = s.inputs := by
  obtain ⟨i, hi, hn⟩ := readCycle_decodes s.cr.pgsel off
  have hr : runCycle (readCycle s off) s = exec i s := by
    simp [runCycle, readCycle, decode, hi]
  rw [perform_inb, hr]
  exact exec_read hn s

/-- The port after that of an offset below 0x1F is the port of the next offset. -/
theorem nextPort_eq (c : Config) {off : BitVec 5} (h : off.toNat < 0x1F) :
    c.ioBase + off.toNat + 1 = c.ioBase + (off + 1).toNat := by
  rw [BitVec.toNat_add_of_lt (by simp; omega)]
  rfl

/-- Below 0x1F a word write is two byte writes of the block (R107). -/
theorem outw_eq (c : Config) {off : BitVec 5} (h : off.toNat < 0x1F) (w : Word) :
    outw c off w = [outb c off (lowByte w), outb c (off + 1) (highByte w)] := by
  simp only [outw, outb, nextPort_eq c h]

/-- Below 0x1F a word read is two byte reads of the block (R107). -/
theorem inw_eq (c : Config) {off : BitVec 5} (h : off.toNat < 0x1F) : inw c off = [inb c off, inb c (off + 1)] := by
  simp only [inw, inb, nextPort_eq c h]

/-- The result of a word read: the first byte in bits 7:0 (R107). -/
theorem inwResult_pair (low high : Byte) : inwResult [low, high] = some (high ++ low) := rfl

end Sys2Proof.Machine
end

