-- ==== Sys2Proof/Laws/Effects.lean ====
section
/-! SUPPORT. Everything an access that answers a next state can have done: a proof about all accesses goes by cases on `Effect` instead of on the 154 rows. -/

namespace Sys2Proof.Machine

/-- `Effect s i t`: what took the block from `s` to `t` is an access of the shape of `i`. -/
inductive Effect (s : State) : Instr → State → Prop where
  /-- A register read returns a byte and changes nothing. -/
  | returned (i : Instr) (b : Byte) : i.dataByte = none → isDataPort i = false → i ≠ .rdReset →
      Effect s i { s with readData := some b }
  /-- A write that does nothing. -/
  | ignored (i : Instr) : i.dataByte.isSome = true → Effect s i s
  /-- WR_CR: fields, send-packet command, transmit start, probe (R112). -/
  | command (v : Byte) (u : State) :
      transmitIfAsked v (sendPacketCommand (storeCommand (coerceCommand v) s)) = .next u →
      Effect s (.wrCr v) (irqProbe u)
  /-- WR_P0_ISR (R134). -/
  | isr (v : Byte) : Effect s (.wrP0Isr v) (lowerIrq (clearIsr v s))
  /-- WR_P0_PSTART. -/
  | pageStart (v : Byte) (w : Byte) : Effect s (.wrP0Pstart v) (s.setPageStart w)
  /-- WR_P0_PSTOP. -/
  | pageStop (v : Byte) (w : Byte) : Effect s (.wrP0Pstop v) (s.setPageStop w)
  /-- WR_P0_BNRY. -/
  | boundPtr (v : Byte) (w : Byte) : Effect s (.wrP0Bnry v) (s.setBoundPtr w)
  /-- WR_P0_TPSR. -/
  | txPageStart (v : Byte) (w : Byte) : Effect s (.wrP0Tpsr v) (s.setTxPageStart w)
  /-- WR_P0_TBCR0. -/
  | txBytesLow (v : Byte) (w : Word) : Effect s (.wrP0Tbcr0 v) (s.setTxBytes w)
  /-- WR_P0_TBCR1. -/
  | txBytesHigh (v : Byte) (w : Word) : Effect s (.wrP0Tbcr1 v) (s.setTxBytes w)
  /-- WR_P0_RBCR0. -/
  | remoteBytesLow (v : Byte) (w : Word) : Effect s (.wrP0Rbcr0 v) (s.setRemoteBytes w)
  /-- WR_P0_RBCR1. -/
  | remoteBytesHigh (v : Byte) (w : Word) : Effect s (.wrP0Rbcr1 v) (s.setRemoteBytes w)
  /-- WR_P0_RCR. -/
  | rcr (v : Byte) (w : Rcr) : Effect s (.wrP0Rcr v) (s.setRcr w)
  /-- WR_P0_TCR. -/
  | tcr (v : Byte) (w : Tcr) : Effect s (.wrP0Tcr v) (s.setTcr w)
  /-- WR_P0_DCR. -/
  | dcr (v : Byte) (w : Dcr) : Effect s (.wrP0Dcr v) (s.setDcr w)
  /-- WR_P0_IMR. -/
  | imr (v : Byte) (w : Imr) : Effect s (.wrP0Imr v) (s.setImr w)
  /-- WR_P1_CURR. -/
  | currPage (v : Byte) (w : Byte) : Effect s (.wrP1Curr v) (s.setCurrPage w)
  /-- WR_P2_CLDA0. -/
  | localDmaLow (v : Byte) (w : Word) : Effect s (.wrP2Clda0 v) (s.setLocalDma w)
  /-- WR_P2_CLDA1. -/
  | localDmaHigh (v : Byte) (w : Word) : Effect s (.wrP2Clda1 v) (s.setLocalDma w)
  /-- WR_P2_RNPP. -/
  | rempktPtr (v : Byte) (w : Byte) : Effect s (.wrP2Rnpp v) (s.setRempktPtr w)
  /-- WR_P2_LNPP. -/
  | localpktPtr (v : Byte) (w : Byte) : Effect s (.wrP2Lnpp v) (s.setLocalpktPtr w)
  /-- WR_P2_ACU. -/
  | addressCntHigh (v : Byte) (w : Word) : Effect s (.wrP2Acu v) (s.setAddressCnt w)
  /-- WR_P2_ACL. -/
  | addressCntLow (v : Byte) (w : Word) : Effect s (.wrP2Acl v) (s.setAddressCnt w)
  /-- WR_P0_RSAR0: `remote_start` and `remote_dma` are loaded together (R135). -/
  | remoteStartLow (v : Byte) (w : Word) : Effect s (.wrP0Rsar0 v) (loadRemoteStart w s)
  /-- WR_P0_RSAR1 (R136). -/
  | remoteStartHigh (v : Byte) (w : Word) : Effect s (.wrP0Rsar1 v) (loadRemoteStart w s)
  /-- WR_P1_MAR0 to WR_P1_MAR7. -/
  | mchash (i : Instr) (w : Vector Byte 8) : ((0xA8#8).ule i.pattern && i.pattern.ule 0xAF#8) = true →
      i.dataByte.isSome = true → Effect s i (s.setMchash w)
  /-- A data-port read (R202). -/
  | dataRead (i : Instr) : isDataPort i = true → i.dataByte = none →
      Effect s i ((dmaAdvance (accessLength s) s).setReadData (some (chipRead8 s s.remoteDma.toNat)))
  /-- A data-port write while the count is not 0 (R203). -/
  | dataWrite (i : Instr) (v : Byte) : isDataPort i = true → i.dataByte = some v → s.remoteBytes ≠ 0#16 →
      Effect s i (dmaAdvance (accessLength s) (chipWrite8 s s.remoteDma.toNat v))
  /-- RD_RESET (R209). -/
  | reset : Effect s .rdReset ((afterDraws 1 (resetBlock s)).setReadData (some (drawnByte s)))

theorem dataPortWrite_effect {s t : State} {i : Instr} {v : Byte} (h : dataPortWrite v s = .next t)
    (hp : isDataPort i = true) (hv : i.dataByte = some v) : Effect s i t := by
  unfold dataPortWrite at h
  split at h
  · cases h
    exact .ignored _ (by rw [hv]; rfl)
  · cases h
    exact .dataWrite i v hp hv ‹_›

/-- Everything an access that answers a next state can have done. -/
theorem exec_effect {i : Instr} {s t : State} (h : exec i s = .next t) : Effect s i t := by
  cases i with
  | rdCr => cases h; exact .returned _ _ rfl rfl (by intro e; cases e)
  | wrCr v => 
    replace h : andThen (transmitIfAsked v _) irqProbe = .next t := h
    obtain ⟨u, hu, rfl⟩ := andThen_eq_next.1 h
    exact .command v u hu
  | rdP0Clda0 => cases h; exact .returned _ _ rfl rfl (by intro e; cases e)
  | rdP0Clda1 => cases h; exact .returned _ _ rfl rfl (by intro e; cases e)
  | rdP0Bnry => cases h; exact .returned _ _ rfl rfl (by intro e; cases e)
  | rdP0Tsr => cases h; exact .returned _ _ rfl rfl (by intro e; cases e)
  | rdP0Ncr => cases h; exact .returned _ _ rfl rfl (by intro e; cases e)
  | rdP0Fifo => cases h; exact .returned _ _ rfl rfl (by intro e; cases e)
  | rdP0Isr => cases h; exact .returned _ _ rfl rfl (by intro e; cases e)
  | rdP0Crda0 => cases h; exact .returned _ _ rfl rfl (by intro e; cases e)
  | rdP0Crda1 => cases h; exact .returned _ _ rfl rfl (by intro e; cases e)
  | rdP0Rsv0a => cases h; exact .returned _ _ rfl rfl (by intro e; cases e)
  | rdP0Rsv0b => cases h; exact .returned _ _ rfl rfl (by intro e; cases e)
  | rdP0Rsr => cases h; exact .returned _ _ rfl rfl (by intro e; cases e)
  | rdP0Cntr0 => cases h; exact .returned _ _ rfl rfl (by intro e; cases e)
  | rdP0Cntr1 => cases h; exact .returned _ _ rfl rfl (by intro e; cases e)
  | rdP0Cntr2 => cases h; exact .returned _ _ rfl rfl (by intro e; cases e)
  | wrP0Pstart v => cases h; exact .pageStart v _
  | wrP0Pstop v => cases h; exact .pageStop v _
  | wrP0Bnry v => cases h; exact .boundPtr v _
  | wrP0Tpsr v => cases h; exact .txPageStart v _
  | wrP0Tbcr0 v => cases h; exact .txBytesLow v _
  | wrP0Tbcr1 v => cases h; exact .txBytesHigh v _
  | wrP0Isr v => cases h; exact .isr v
  | wrP0Rsar0 v => cases h; exact .remoteStartLow v _
  | wrP0Rsar1 v => cases h; exact .remoteStartHigh v _
  | wrP0Rbcr0 v => cases h; exact .remoteBytesLow v _
  | wrP0Rbcr1 v => cases h; exact .remoteBytesHigh v _
  | wrP0Rcr v => cases h; exact .rcr v _
  | wrP0Tcr v => cases h; exact .tcr v _
  | wrP0Dcr v => cases h; exact .dcr v _
  | wrP0Imr v => cases h; exact .imr v _
  | rdP1Par0 => cases h; exact .returned _ _ rfl rfl (by intro e; cases e)
  | rdP1Par1 => cases h; exact .returned _ _ rfl rfl (by intro e; cases e)
  | rdP1Par2 => cases h; exact .returned _ _ rfl rfl (by intro e; cases e)
  | rdP1Par3 => cases h; exact .returned _ _ rfl rfl (by intro e; cases e)
  | rdP1Par4 => cases h; exact .returned _ _ rfl rfl (by intro e; cases e)
  | rdP1Par5 => cases h; exact .returned _ _ rfl rfl (by intro e; cases e)
  | rdP1Curr => cases h; exact .returned _ _ rfl rfl (by intro e; cases e)
  | rdP1Mar0 => cases h; exact .returned _ _ rfl rfl (by intro e; cases e)
  | rdP1Mar1 => cases h; exact .returned _ _ rfl rfl (by intro e; cases e)
  | rdP1Mar2 => cases h; exact .returned _ _ rfl rfl (by intro e; cases e)
  | rdP1Mar3 => cases h; exact .returned _ _ rfl rfl (by intro e; cases e)
  | rdP1Mar4 => cases h; exact .returned _ _ rfl rfl (by intro e; cases e)
  | rdP1Mar5 => cases h; exact .returned _ _ rfl rfl (by intro e; cases e)
  | rdP1Mar6 => cases h; exact .returned _ _ rfl rfl (by intro e; cases e)
  | rdP1Mar7 => cases h; exact .returned _ _ rfl rfl (by intro e; cases e)
  | wrP1Par0 v => cases h; exact .ignored _ rfl
  | wrP1Par1 v => cases h; exact .ignored _ rfl
  | wrP1Par2 v => cases h; exact .ignored _ rfl
  | wrP1Par3 v => cases h; exact .ignored _ rfl
  | wrP1Par4 v => cases h; exact .ignored _ rfl
  | wrP1Par5 v => cases h; exact .ignored _ rfl
  | wrP1Curr v => cases h; exact .currPage v _
  | wrP1Mar0 v => cases h; exact .mchash _ _ (by simp [Instr.pattern]) rfl
  | wrP1Mar1 v => cases h; exact .mchash _ _ (by simp [Instr.pattern]) rfl
  | wrP1Mar2 v => cases h; exact .mchash _ _ (by simp [Instr.pattern]) rfl
  | wrP1Mar3 v => cases h; exact .mchash _ _ (by simp [Instr.pattern]) rfl
  | wrP1Mar4 v => cases h; exact .mchash _ _ (by simp [Instr.pattern]) rfl
  | wrP1Mar5 v => cases h; exact .mchash _ _ (by simp [Instr.pattern]) rfl
  | wrP1Mar6 v => cases h; exact .mchash _ _ (by simp [Instr.pattern]) rfl
  | wrP1Mar7 v => cases h; exact .mchash _ _ (by simp [Instr.pattern]) rfl
  | rdP2Pstart => cases h; exact .returned _ _ rfl rfl (by intro e; cases e)
  | rdP2Pstop => cases h; exact .returned _ _ rfl rfl (by intro e; cases e)
  | rdP2Rnpp => cases h; exact .returned _ _ rfl rfl (by intro e; cases e)
  | rdP2Tpsr => cases h; exact .returned _ _ rfl rfl (by intro e; cases e)
  | rdP2Lnpp => cases h; exact .returned _ _ rfl rfl (by intro e; cases e)
  | rdP2Acu => cases h; exact .returned _ _ rfl rfl (by intro e; cases e)
  | rdP2Acl => cases h; exact .returned _ _ rfl rfl (by intro e; cases e)
  | rdP2Rsv8 => cases h; exact .returned _ _ rfl rfl (by intro e; cases e)
  | rdP2Rsv9 => cases h; exact .returned _ _ rfl rfl (by intro e; cases e)
  | rdP2Rsva => cases h; exact .returned _ _ rfl rfl (by intro e; cases e)
  | rdP2Rsvb => cases h; exact .returned _ _ rfl rfl (by intro e; cases e)
  | rdP2Rcr => cases h; exact .returned _ _ rfl rfl (by intro e; cases e)
  | rdP2Tcr => cases h; exact .returned _ _ rfl rfl (by intro e; cases e)
  | rdP2Dcr => cases h; exact .returned _ _ rfl rfl (by intro e; cases e)
  | rdP2Imr => cases h; exact .returned _ _ rfl rfl (by intro e; cases e)
  | wrP2Clda0 v => cases h; exact .localDmaLow v _
  | wrP2Clda1 v => cases h; exact .localDmaHigh v _
  | wrP2Rnpp v => cases h; exact .rempktPtr v _
  | wrP2Rsv4 v => cases h; exact .ignored _ rfl
  | wrP2Lnpp v => cases h; exact .localpktPtr v _
  | wrP2Acu v => cases h; exact .addressCntHigh v _
  | wrP2Acl v => cases h; exact .addressCntLow v _
  | wrP2Rsv8 v => cases h; exact .ignored _ rfl
  | wrP2Rsv9 v => cases h; exact .ignored _ rfl
  | wrP2Rsva v => cases h; exact .ignored _ rfl
  | wrP2Rsvb v => cases h; exact .ignored _ rfl
  | wrP2Rsvc v => cases h; exact .ignored _ rfl
  | wrP2Rsvd v => cases h; exact .ignored _ rfl
  | wrP2Rsve v => cases h; exact .ignored _ rfl
  | wrP2Rsvf v => cases h; exact .ignored _ rfl
  | rdP31 => cases h; exact .returned _ _ rfl rfl (by intro e; cases e)
  | rdP32 => cases h; exact .returned _ _ rfl rfl (by intro e; cases e)
  | rdP33 => cases h; exact .returned _ _ rfl rfl (by intro e; cases e)
  | rdP34 => cases h; exact .returned _ _ rfl rfl (by intro e; cases e)
  | rdP35 => cases h; exact .returned _ _ rfl rfl (by intro e; cases e)
  | rdP36 => cases h; exact .returned _ _ rfl rfl (by intro e; cases e)
  | rdP37 => cases h; exact .returned _ _ rfl rfl (by intro e; cases e)
  | rdP38 => cases h; exact .returned _ _ rfl rfl (by intro e; cases e)
  | rdP39 => cases h; exact .returned _ _ rfl rfl (by intro e; cases e)
  | rdP3A => cases h; exact .returned _ _ rfl rfl (by intro e; cases e)
  | rdP3B => cases h; exact .returned _ _ rfl rfl (by intro e; cases e)
  | rdP3C => cases h; exact .returned _ _ rfl rfl (by intro e; cases e)
  | rdP3D => cases h; exact .returned _ _ rfl rfl (by intro e; cases e)
  | rdP3E => cases h; exact .returned _ _ rfl rfl (by intro e; cases e)
  | rdP3F => cases h; exact .returned _ _ rfl rfl (by intro e; cases e)
  | wrP31 v => cases h; exact .ignored _ rfl
  | wrP32 v => cases h; exact .ignored _ rfl
  | wrP33 v => cases h; exact .ignored _ rfl
  | wrP34 v => cases h; exact .ignored _ rfl
  | wrP35 v => cases h; exact .ignored _ rfl
  | wrP36 v => cases h; exact .ignored _ rfl
  | wrP37 v => cases h; exact .ignored _ rfl
  | wrP38 v => cases h; exact .ignored _ rfl
  | wrP39 v => cases h; exact .ignored _ rfl
  | wrP3A v => cases h; exact .ignored _ rfl
  | wrP3B v => cases h; exact .ignored _ rfl
  | wrP3C v => cases h; exact .ignored _ rfl
  | wrP3D v => cases h; exact .ignored _ rfl
  | wrP3E v => cases h; exact .ignored _ rfl
  | wrP3F v => cases h; exact .ignored _ rfl
  | rdData10 => cases h; exact .dataRead _ rfl rfl
  | rdData11 => cases h; exact .dataRead _ rfl rfl
  | rdData12 => cases h; exact .dataRead _ rfl rfl
  | rdData13 => cases h; exact .dataRead _ rfl rfl
  | rdData14 => cases h; exact .dataRead _ rfl rfl
  | rdData15 => cases h; exact .dataRead _ rfl rfl
  | rdData16 => cases h; exact .dataRead _ rfl rfl
  | rdData17 => cases h; exact .dataRead _ rfl rfl
  | rdData18 => cases h; exact .dataRead _ rfl rfl
  | rdData19 => cases h; exact .dataRead _ rfl rfl
  | rdData1a => cases h; exact .dataRead _ rfl rfl
  | rdData1b => cases h; exact .dataRead _ rfl rfl
  | rdData1c => cases h; exact .dataRead _ rfl rfl
  | rdData1d => cases h; exact .dataRead _ rfl rfl
  | rdData1e => cases h; exact .dataRead _ rfl rfl
  | wrData10 v => exact dataPortWrite_effect (v := v) h (by simp [isDataPort, Instr.pattern, descriptorOffset]) rfl
  | wrData11 v => exact dataPortWrite_effect (v := v) h (by simp [isDataPort, Instr.pattern, descriptorOffset]) rfl
  | wrData12 v => exact dataPortWrite_effect (v := v) h (by simp [isDataPort, Instr.pattern, descriptorOffset]) rfl
  | wrData13 v => exact dataPortWrite_effect (v := v) h (by simp [isDataPort, Instr.pattern, descriptorOffset]) rfl
  | wrData14 v => exact dataPortWrite_effect (v := v) h (by simp [isDataPort, Instr.pattern, descriptorOffset]) rfl
  | wrData15 v => exact dataPortWrite_effect (v := v) h (by simp [isDataPort, Instr.pattern, descriptorOffset]) rfl
  | wrData16 v => exact dataPortWrite_effect (v := v) h (by simp [isDataPort, Instr.pattern, descriptorOffset]) rfl
  | wrData17 v => exact dataPortWrite_effect (v := v) h (by simp [isDataPort, Instr.pattern, descriptorOffset]) rfl
  | wrData18 v => exact dataPortWrite_effect (v := v) h (by simp [isDataPort, Instr.pattern, descriptorOffset]) rfl
  | wrData19 v => exact dataPortWrite_effect (v := v) h (by simp [isDataPort, Instr.pattern, descriptorOffset]) rfl
  | wrData1a v => exact dataPortWrite_effect (v := v) h (by simp [isDataPort, Instr.pattern, descriptorOffset]) rfl
  | wrData1b v => exact dataPortWrite_effect (v := v) h (by simp [isDataPort, Instr.pattern, descriptorOffset]) rfl
  | wrData1c v => exact dataPortWrite_effect (v := v) h (by simp [isDataPort, Instr.pattern, descriptorOffset]) rfl
  | wrData1d v => exact dataPortWrite_effect (v := v) h (by simp [isDataPort, Instr.pattern, descriptorOffset]) rfl
  | wrData1e v => exact dataPortWrite_effect (v := v) h (by simp [isDataPort, Instr.pattern, descriptorOffset]) rfl
  | rdReset => cases h; exact .reset
  | wrReset v => cases h; exact .ignored _ rfl

/-- Everything a CR write can do after its fields are stored (R112, R250 to R254). -/
theorem transmitIfAsked_cases {v : Byte} {s u : State} (h : transmitIfAsked v s = .next u) :
    (u = s ∧ (v.getLsbD 2 = false ∨ (s.tcr.loopCntl ≠ 0#2 ∧ s.tcr.loopCntl ≠ 1#2))) ∨
    (v.getLsbD 2 = true ∧ s.tcr.loopCntl = 0#2 ∧ s.txPending = false ∧ u = externalTransmit s) ∨
    (v.getLsbD 2 = true ∧ s.tcr.loopCntl = 1#2 ∧ u = loopbackTransmit s) := by
  unfold transmitIfAsked at h
  split at h
  · rcases transmitStart_cases s with ⟨_, _, e⟩ | ⟨_, _, e⟩ | ⟨_, e⟩ | ⟨_, _, e⟩ <;> rw [e] at h <;> cases h <;> simp [*]
  · cases h
    simp_all

end Sys2Proof.Machine
end

