-- ==== Sys2Proof/Laws/Operands.lean ====
section
/-! SUPPORT. The register bytes: a written byte reads back with its reserved bits 0, and the halves of a 16-bit register. -/

namespace Sys2Proof.Machine

theorem Isr.toByte_ofByte (v : Byte) : (Isr.ofByte v).toByte = v := by revert v; decide

theorem Isr.ofByte_toByte (r : Isr) : Isr.ofByte r.toByte = r := by
  obtain ⟨a, b, c, d, e, f, g, h⟩ := r
  revert a b c d e f g h
  decide

/-- IMR bit 7 is dropped (R194). -/
theorem Imr.toByte_ofByte (v : Byte) : (Imr.ofByte v).toByte = v &&& 0x7F#8 := by revert v; decide

/-- DCR bit 7 is dropped (R194). -/
theorem Dcr.toByte_ofByte (v : Byte) : (Dcr.ofByte v).toByte = v &&& 0x7F#8 := by revert v; decide

/-- TCR bits 7:5 are dropped (R194). -/
theorem Tcr.toByte_ofByte (v : Byte) : (Tcr.ofByte v).toByte = v &&& 0x1F#8 := by revert v; decide

/-- RCR bits 7:6 are dropped (R194). -/
theorem Rcr.toByte_ofByte (v : Byte) : (Rcr.ofByte v).toByte = v &&& 0x3F#8 := by revert v; decide

/-- Bit `i` of `byteOfBits` is its argument `i`. -/
theorem getLsbD_byteOfBits (b0 b1 b2 b3 b4 b5 b6 b7 : Bool) :
    [0, 1, 2, 3, 4, 5, 6, 7].map (byteOfBits b0 b1 b2 b3 b4 b5 b6 b7).getLsbD =
      [b0, b1, b2, b3, b4, b5, b6, b7] := by
  revert b0 b1 b2 b3 b4 b5 b6 b7
  decide

@[simp] theorem lowByte_setLowByte (w : Word) (v : Byte) : lowByte (setLowByte w v) = v := by
  ext i hi
  interval_cases i <;> simp [lowByte, setLowByte]

@[simp] theorem highByte_setHighByte (w : Word) (v : Byte) : highByte (setHighByte w v) = v := by
  ext i hi
  interval_cases i <;> simp [highByte, setHighByte]

@[simp] theorem highByte_setLowByte (w : Word) (v : Byte) : highByte (setLowByte w v) = highByte w := by
  ext i hi
  interval_cases i <;> simp [highByte, setLowByte]

@[simp] theorem lowByte_setHighByte (w : Word) (v : Byte) : lowByte (setHighByte w v) = lowByte w := by
  ext i hi
  interval_cases i <;> simp [lowByte, setHighByte]

end Sys2Proof.Machine
end

