-- ==== Sys2Proof/Laws/PerInstr.lean ====
section
/-! SUPPORT. The family `OwnRow`: for every row of spec/opcode_table.json, its match lies under its mask, and its direction bit says how long its encoding is (R91, R106). -/

namespace Sys2Proof.Laws.OwnRow

/-- The match of the row of `i` lies under its mask; the direction bit of the match says whether a data byte follows, and the encoding has that length. -/
def Statement (i : Instr) : Prop :=
  i.pattern &&& i.mask = i.pattern ∧ descriptorIsWrite i.pattern = i.dataByte.isSome ∧
    (encode i).length = (if i.dataByte.isSome then 2 else 1) ∧ i.wf = true

theorem of_any (i : Instr) : Statement i := by
  cases i <;> simp [Statement, encode, Instr.wf, Instr.mask, Instr.pattern, Instr.dataByte, ignoresPage, descriptorOffset, descriptorIsWrite]

theorem rdCr : Statement .rdCr := of_any _

theorem wrCr (v : Byte) : Statement (.wrCr v) := of_any _

theorem rdP0Clda0 : Statement .rdP0Clda0 := of_any _

theorem rdP0Clda1 : Statement .rdP0Clda1 := of_any _

theorem rdP0Bnry : Statement .rdP0Bnry := of_any _

theorem rdP0Tsr : Statement .rdP0Tsr := of_any _

theorem rdP0Ncr : Statement .rdP0Ncr := of_any _

theorem rdP0Fifo : Statement .rdP0Fifo := of_any _

theorem rdP0Isr : Statement .rdP0Isr := of_any _

theorem rdP0Crda0 : Statement .rdP0Crda0 := of_any _

theorem rdP0Crda1 : Statement .rdP0Crda1 := of_any _

theorem rdP0Rsv0a : Statement .rdP0Rsv0a := of_any _

theorem rdP0Rsv0b : Statement .rdP0Rsv0b := of_any _

theorem rdP0Rsr : Statement .rdP0Rsr := of_any _

theorem rdP0Cntr0 : Statement .rdP0Cntr0 := of_any _

theorem rdP0Cntr1 : Statement .rdP0Cntr1 := of_any _

theorem rdP0Cntr2 : Statement .rdP0Cntr2 := of_any _

theorem wrP0Pstart (v : Byte) : Statement (.wrP0Pstart v) := of_any _

theorem wrP0Pstop (v : Byte) : Statement (.wrP0Pstop v) := of_any _

theorem wrP0Bnry (v : Byte) : Statement (.wrP0Bnry v) := of_any _

theorem wrP0Tpsr (v : Byte) : Statement (.wrP0Tpsr v) := of_any _

theorem wrP0Tbcr0 (v : Byte) : Statement (.wrP0Tbcr0 v) := of_any _

theorem wrP0Tbcr1 (v : Byte) : Statement (.wrP0Tbcr1 v) := of_any _

theorem wrP0Isr (v : Byte) : Statement (.wrP0Isr v) := of_any _

theorem wrP0Rsar0 (v : Byte) : Statement (.wrP0Rsar0 v) := of_any _

theorem wrP0Rsar1 (v : Byte) : Statement (.wrP0Rsar1 v) := of_any _

theorem wrP0Rbcr0 (v : Byte) : Statement (.wrP0Rbcr0 v) := of_any _

theorem wrP0Rbcr1 (v : Byte) : Statement (.wrP0Rbcr1 v) := of_any _

theorem wrP0Rcr (v : Byte) : Statement (.wrP0Rcr v) := of_any _

theorem wrP0Tcr (v : Byte) : Statement (.wrP0Tcr v) := of_any _

theorem wrP0Dcr (v : Byte) : Statement (.wrP0Dcr v) := of_any _

theorem wrP0Imr (v : Byte) : Statement (.wrP0Imr v) := of_any _

theorem rdP1Par0 : Statement .rdP1Par0 := of_any _

theorem rdP1Par1 : Statement .rdP1Par1 := of_any _

theorem rdP1Par2 : Statement .rdP1Par2 := of_any _

theorem rdP1Par3 : Statement .rdP1Par3 := of_any _

theorem rdP1Par4 : Statement .rdP1Par4 := of_any _

theorem rdP1Par5 : Statement .rdP1Par5 := of_any _

theorem rdP1Curr : Statement .rdP1Curr := of_any _

theorem rdP1Mar0 : Statement .rdP1Mar0 := of_any _

theorem rdP1Mar1 : Statement .rdP1Mar1 := of_any _

theorem rdP1Mar2 : Statement .rdP1Mar2 := of_any _

theorem rdP1Mar3 : Statement .rdP1Mar3 := of_any _

theorem rdP1Mar4 : Statement .rdP1Mar4 := of_any _

theorem rdP1Mar5 : Statement .rdP1Mar5 := of_any _

theorem rdP1Mar6 : Statement .rdP1Mar6 := of_any _

theorem rdP1Mar7 : Statement .rdP1Mar7 := of_any _

theorem wrP1Par0 (v : Byte) : Statement (.wrP1Par0 v) := of_any _

theorem wrP1Par1 (v : Byte) : Statement (.wrP1Par1 v) := of_any _

theorem wrP1Par2 (v : Byte) : Statement (.wrP1Par2 v) := of_any _

theorem wrP1Par3 (v : Byte) : Statement (.wrP1Par3 v) := of_any _

theorem wrP1Par4 (v : Byte) : Statement (.wrP1Par4 v) := of_any _

theorem wrP1Par5 (v : Byte) : Statement (.wrP1Par5 v) := of_any _

theorem wrP1Curr (v : Byte) : Statement (.wrP1Curr v) := of_any _

theorem wrP1Mar0 (v : Byte) : Statement (.wrP1Mar0 v) := of_any _

theorem wrP1Mar1 (v : Byte) : Statement (.wrP1Mar1 v) := of_any _

theorem wrP1Mar2 (v : Byte) : Statement (.wrP1Mar2 v) := of_any _

theorem wrP1Mar3 (v : Byte) : Statement (.wrP1Mar3 v) := of_any _

theorem wrP1Mar4 (v : Byte) : Statement (.wrP1Mar4 v) := of_any _

theorem wrP1Mar5 (v : Byte) : Statement (.wrP1Mar5 v) := of_any _

theorem wrP1Mar6 (v : Byte) : Statement (.wrP1Mar6 v) := of_any _

theorem wrP1Mar7 (v : Byte) : Statement (.wrP1Mar7 v) := of_any _

theorem rdP2Pstart : Statement .rdP2Pstart := of_any _

theorem rdP2Pstop : Statement .rdP2Pstop := of_any _

theorem rdP2Rnpp : Statement .rdP2Rnpp := of_any _

theorem rdP2Tpsr : Statement .rdP2Tpsr := of_any _

theorem rdP2Lnpp : Statement .rdP2Lnpp := of_any _

theorem rdP2Acu : Statement .rdP2Acu := of_any _

theorem rdP2Acl : Statement .rdP2Acl := of_any _

theorem rdP2Rsv8 : Statement .rdP2Rsv8 := of_any _

theorem rdP2Rsv9 : Statement .rdP2Rsv9 := of_any _

theorem rdP2Rsva : Statement .rdP2Rsva := of_any _

theorem rdP2Rsvb : Statement .rdP2Rsvb := of_any _

theorem rdP2Rcr : Statement .rdP2Rcr := of_any _

theorem rdP2Tcr : Statement .rdP2Tcr := of_any _

theorem rdP2Dcr : Statement .rdP2Dcr := of_any _

theorem rdP2Imr : Statement .rdP2Imr := of_any _

theorem wrP2Clda0 (v : Byte) : Statement (.wrP2Clda0 v) := of_any _

theorem wrP2Clda1 (v : Byte) : Statement (.wrP2Clda1 v) := of_any _

theorem wrP2Rnpp (v : Byte) : Statement (.wrP2Rnpp v) := of_any _

theorem wrP2Rsv4 (v : Byte) : Statement (.wrP2Rsv4 v) := of_any _

theorem wrP2Lnpp (v : Byte) : Statement (.wrP2Lnpp v) := of_any _

theorem wrP2Acu (v : Byte) : Statement (.wrP2Acu v) := of_any _

theorem wrP2Acl (v : Byte) : Statement (.wrP2Acl v) := of_any _

theorem wrP2Rsv8 (v : Byte) : Statement (.wrP2Rsv8 v) := of_any _

theorem wrP2Rsv9 (v : Byte) : Statement (.wrP2Rsv9 v) := of_any _

theorem wrP2Rsva (v : Byte) : Statement (.wrP2Rsva v) := of_any _

theorem wrP2Rsvb (v : Byte) : Statement (.wrP2Rsvb v) := of_any _

theorem wrP2Rsvc (v : Byte) : Statement (.wrP2Rsvc v) := of_any _

theorem wrP2Rsvd (v : Byte) : Statement (.wrP2Rsvd v) := of_any _

theorem wrP2Rsve (v : Byte) : Statement (.wrP2Rsve v) := of_any _

theorem wrP2Rsvf (v : Byte) : Statement (.wrP2Rsvf v) := of_any _

theorem rdP31 : Statement .rdP31 := of_any _

theorem rdP32 : Statement .rdP32 := of_any _

theorem rdP33 : Statement .rdP33 := of_any _

theorem rdP34 : Statement .rdP34 := of_any _

theorem rdP35 : Statement .rdP35 := of_any _

theorem rdP36 : Statement .rdP36 := of_any _

theorem rdP37 : Statement .rdP37 := of_any _

theorem rdP38 : Statement .rdP38 := of_any _

theorem rdP39 : Statement .rdP39 := of_any _

theorem rdP3A : Statement .rdP3A := of_any _

theorem rdP3B : Statement .rdP3B := of_any _

theorem rdP3C : Statement .rdP3C := of_any _

theorem rdP3D : Statement .rdP3D := of_any _

theorem rdP3E : Statement .rdP3E := of_any _

theorem rdP3F : Statement .rdP3F := of_any _

theorem wrP31 (v : Byte) : Statement (.wrP31 v) := of_any _

theorem wrP32 (v : Byte) : Statement (.wrP32 v) := of_any _

theorem wrP33 (v : Byte) : Statement (.wrP33 v) := of_any _

theorem wrP34 (v : Byte) : Statement (.wrP34 v) := of_any _

theorem wrP35 (v : Byte) : Statement (.wrP35 v) := of_any _

theorem wrP36 (v : Byte) : Statement (.wrP36 v) := of_any _

theorem wrP37 (v : Byte) : Statement (.wrP37 v) := of_any _

theorem wrP38 (v : Byte) : Statement (.wrP38 v) := of_any _

theorem wrP39 (v : Byte) : Statement (.wrP39 v) := of_any _

theorem wrP3A (v : Byte) : Statement (.wrP3A v) := of_any _

theorem wrP3B (v : Byte) : Statement (.wrP3B v) := of_any _

theorem wrP3C (v : Byte) : Statement (.wrP3C v) := of_any _

theorem wrP3D (v : Byte) : Statement (.wrP3D v) := of_any _

theorem wrP3E (v : Byte) : Statement (.wrP3E v) := of_any _

theorem wrP3F (v : Byte) : Statement (.wrP3F v) := of_any _

theorem rdData10 : Statement .rdData10 := of_any _

theorem rdData11 : Statement .rdData11 := of_any _

theorem rdData12 : Statement .rdData12 := of_any _

theorem rdData13 : Statement .rdData13 := of_any _

theorem rdData14 : Statement .rdData14 := of_any _

theorem rdData15 : Statement .rdData15 := of_any _

theorem rdData16 : Statement .rdData16 := of_any _

theorem rdData17 : Statement .rdData17 := of_any _

theorem rdData18 : Statement .rdData18 := of_any _

theorem rdData19 : Statement .rdData19 := of_any _

theorem rdData1a : Statement .rdData1a := of_any _

theorem rdData1b : Statement .rdData1b := of_any _

theorem rdData1c : Statement .rdData1c := of_any _

theorem rdData1d : Statement .rdData1d := of_any _

theorem rdData1e : Statement .rdData1e := of_any _

theorem wrData10 (v : Byte) : Statement (.wrData10 v) := of_any _

theorem wrData11 (v : Byte) : Statement (.wrData11 v) := of_any _

theorem wrData12 (v : Byte) : Statement (.wrData12 v) := of_any _

theorem wrData13 (v : Byte) : Statement (.wrData13 v) := of_any _

theorem wrData14 (v : Byte) : Statement (.wrData14 v) := of_any _

theorem wrData15 (v : Byte) : Statement (.wrData15 v) := of_any _

theorem wrData16 (v : Byte) : Statement (.wrData16 v) := of_any _

theorem wrData17 (v : Byte) : Statement (.wrData17 v) := of_any _

theorem wrData18 (v : Byte) : Statement (.wrData18 v) := of_any _

theorem wrData19 (v : Byte) : Statement (.wrData19 v) := of_any _

theorem wrData1a (v : Byte) : Statement (.wrData1a v) := of_any _

theorem wrData1b (v : Byte) : Statement (.wrData1b v) := of_any _

theorem wrData1c (v : Byte) : Statement (.wrData1c v) := of_any _

theorem wrData1d (v : Byte) : Statement (.wrData1d v) := of_any _

theorem wrData1e (v : Byte) : Statement (.wrData1e v) := of_any _

theorem rdReset : Statement .rdReset := of_any _

theorem wrReset (v : Byte) : Statement (.wrReset v) := of_any _

end Sys2Proof.Laws.OwnRow
end

