-- ==== Sys2Proof/Tests/Slice0.lean ====
section
/-! SUPPORT. Tests of the model: ill-formed terms are refused, every row's word decodes to it, single steps give the values of spec/95_test_vectors.md and of the rules' own examples, and every statement's hypotheses are met somewhere. -/

open Sys2Proof Sys2Proof.Machine

namespace Sys2Proof.Tests

/-! ### Helpers -/

/-- A field of the next state. -/
def after {α : Type} (f : State → α) (o : Host.Outcome State Fault Refusal) : Option α :=
  match o with
  | .next t => some (f t)
  | .fault _ => none
  | .refused _ => none

/-- The byte a read returned. -/
def got (o : Host.Outcome State Fault Refusal) : Option Byte := (after State.readData o).join

/-- The ring of section 5 of the vectors: pages 0x46 to 0x5F, BNRY 0x46, CURR 0x47, RCR 0x04, IMR 0x01, ISR 0, CR 0x22. -/
def ringState : State :=
  { State.reset with
    cr := { rdmaCmd := 4, start := true }, isr := {}, imr := { rxInte := true }, rcr := { broadcast := true }
    pageStart := 0x46, pageStop := 0x60, boundPtr := 0x46, currPage := 0x47 }

/-- A frame of `n` bytes to a destination, zero after it. -/
def frameTo (dst : List Byte) (n : Nat) : List Byte := dst ++ List.replicate (n - 6) 0

/-- The broadcast address. -/
def everyone : List Byte := [0xFF, 0xFF, 0xFF, 0xFF, 0xFF, 0xFF]

/-- The station address of S0. -/
def station : List Byte := [0x52, 0x54, 0x00, 0x12, 0x34, 0x56]

/-- A state with a transmission pending, `TX_DEFERRED` true (T6). -/
def pendingState : State :=
  { State.reset with
    cfg := { State.reset.cfg with txDeferred := true }, cr := { rdmaCmd := 4, txPacket := true, start := true }
    imr := { txInte := true }, txPending := true }

/-- `mem[0x4000..0x4003]` = 01 02 03 04, TPSR 0x40, TBCR 4, IMR 0x02 (section 6 of the vectors). -/
def transmitState : State :=
  { State.reset with
    mem := [(0, 1), (1, 2), (2, 3), (3, 4)], txPageStart := 0x40, txBytes := 4, imr := { txInte := true } }

/-! ### Well-formedness (R71, R85, R7) -/

theorem test_wf_accepts_reset : State.reset.cfg.wf = true := by decide

theorem test_wf_refuses_low_memory : ({ State.reset.cfg with memStart := 31 } : Config).wf = false := by decide

theorem test_wf_refuses_memory_past_end : ({ State.reset.cfg with memStart := 0xC001 } : Config).wf = false := by decide

theorem test_wf_refuses_ports_past_end : ({ State.reset.cfg with ioBase := 0xFFE1 } : Config).wf = false := by decide

theorem test_wf_refuses_read_past_end : (Event.read 0x10000).wf = false := by decide

theorem test_wf_refuses_write_past_end : (Event.write 0x10000 0).wf = false := by decide

/-! ### Decoding: one word per row, written as direction, page, offset (30_encoding.md section 1 and the maps R96 to R101) -/

theorem test_decode_common_reads :
    decodeAccess 0b00000000 0 = some .rdCr ∧
    decodeAccess 0b00010000 0 = some .rdData10 ∧
    decodeAccess 0b00010001 0 = some .rdData11 ∧
    decodeAccess 0b00010010 0 = some .rdData12 ∧
    decodeAccess 0b00010011 0 = some .rdData13 ∧
    decodeAccess 0b00010100 0 = some .rdData14 ∧
    decodeAccess 0b00010101 0 = some .rdData15 ∧
    decodeAccess 0b00010110 0 = some .rdData16 ∧
    decodeAccess 0b00010111 0 = some .rdData17 ∧
    decodeAccess 0b00011000 0 = some .rdData18 ∧
    decodeAccess 0b00011001 0 = some .rdData19 ∧
    decodeAccess 0b00011010 0 = some .rdData1a ∧
    decodeAccess 0b00011011 0 = some .rdData1b ∧
    decodeAccess 0b00011100 0 = some .rdData1c ∧
    decodeAccess 0b00011101 0 = some .rdData1d ∧
    decodeAccess 0b00011110 0 = some .rdData1e ∧
    decodeAccess 0b00011111 0 = some .rdReset := by decide

theorem test_decode_common_writes :
    decodeAccess 0b10000000 0xA5 = some (.wrCr 0xA5) ∧
    decodeAccess 0b10010000 0xA5 = some (.wrData10 0xA5) ∧
    decodeAccess 0b10010001 0xA5 = some (.wrData11 0xA5) ∧
    decodeAccess 0b10010010 0xA5 = some (.wrData12 0xA5) ∧
    decodeAccess 0b10010011 0xA5 = some (.wrData13 0xA5) ∧
    decodeAccess 0b10010100 0xA5 = some (.wrData14 0xA5) ∧
    decodeAccess 0b10010101 0xA5 = some (.wrData15 0xA5) ∧
    decodeAccess 0b10010110 0xA5 = some (.wrData16 0xA5) ∧
    decodeAccess 0b10010111 0xA5 = some (.wrData17 0xA5) ∧
    decodeAccess 0b10011000 0xA5 = some (.wrData18 0xA5) ∧
    decodeAccess 0b10011001 0xA5 = some (.wrData19 0xA5) ∧
    decodeAccess 0b10011010 0xA5 = some (.wrData1a 0xA5) ∧
    decodeAccess 0b10011011 0xA5 = some (.wrData1b 0xA5) ∧
    decodeAccess 0b10011100 0xA5 = some (.wrData1c 0xA5) ∧
    decodeAccess 0b10011101 0xA5 = some (.wrData1d 0xA5) ∧
    decodeAccess 0b10011110 0xA5 = some (.wrData1e 0xA5) ∧
    decodeAccess 0b10011111 0xA5 = some (.wrReset 0xA5) := by decide

theorem test_decode_page0_reads :
    decodeAccess 0b00000001 0 = some .rdP0Clda0 ∧
    decodeAccess 0b00000010 0 = some .rdP0Clda1 ∧
    decodeAccess 0b00000011 0 = some .rdP0Bnry ∧
    decodeAccess 0b00000100 0 = some .rdP0Tsr ∧
    decodeAccess 0b00000101 0 = some .rdP0Ncr ∧
    decodeAccess 0b00000110 0 = some .rdP0Fifo ∧
    decodeAccess 0b00000111 0 = some .rdP0Isr ∧
    decodeAccess 0b00001000 0 = some .rdP0Crda0 ∧
    decodeAccess 0b00001001 0 = some .rdP0Crda1 ∧
    decodeAccess 0b00001010 0 = some .rdP0Rsv0a ∧
    decodeAccess 0b00001011 0 = some .rdP0Rsv0b ∧
    decodeAccess 0b00001100 0 = some .rdP0Rsr ∧
    decodeAccess 0b00001101 0 = some .rdP0Cntr0 ∧
    decodeAccess 0b00001110 0 = some .rdP0Cntr1 ∧
    decodeAccess 0b00001111 0 = some .rdP0Cntr2 := by decide

theorem test_decode_page0_writes :
    decodeAccess 0b10000001 0xA5 = some (.wrP0Pstart 0xA5) ∧
    decodeAccess 0b10000010 0xA5 = some (.wrP0Pstop 0xA5) ∧
    decodeAccess 0b10000011 0xA5 = some (.wrP0Bnry 0xA5) ∧
    decodeAccess 0b10000100 0xA5 = some (.wrP0Tpsr 0xA5) ∧
    decodeAccess 0b10000101 0xA5 = some (.wrP0Tbcr0 0xA5) ∧
    decodeAccess 0b10000110 0xA5 = some (.wrP0Tbcr1 0xA5) ∧
    decodeAccess 0b10000111 0xA5 = some (.wrP0Isr 0xA5) ∧
    decodeAccess 0b10001000 0xA5 = some (.wrP0Rsar0 0xA5) ∧
    decodeAccess 0b10001001 0xA5 = some (.wrP0Rsar1 0xA5) ∧
    decodeAccess 0b10001010 0xA5 = some (.wrP0Rbcr0 0xA5) ∧
    decodeAccess 0b10001011 0xA5 = some (.wrP0Rbcr1 0xA5) ∧
    decodeAccess 0b10001100 0xA5 = some (.wrP0Rcr 0xA5) ∧
    decodeAccess 0b10001101 0xA5 = some (.wrP0Tcr 0xA5) ∧
    decodeAccess 0b10001110 0xA5 = some (.wrP0Dcr 0xA5) ∧
    decodeAccess 0b10001111 0xA5 = some (.wrP0Imr 0xA5) := by decide

theorem test_decode_page1_reads :
    decodeAccess 0b00100001 0 = some .rdP1Par0 ∧
    decodeAccess 0b00100010 0 = some .rdP1Par1 ∧
    decodeAccess 0b00100011 0 = some .rdP1Par2 ∧
    decodeAccess 0b00100100 0 = some .rdP1Par3 ∧
    decodeAccess 0b00100101 0 = some .rdP1Par4 ∧
    decodeAccess 0b00100110 0 = some .rdP1Par5 ∧
    decodeAccess 0b00100111 0 = some .rdP1Curr ∧
    decodeAccess 0b00101000 0 = some .rdP1Mar0 ∧
    decodeAccess 0b00101001 0 = some .rdP1Mar1 ∧
    decodeAccess 0b00101010 0 = some .rdP1Mar2 ∧
    decodeAccess 0b00101011 0 = some .rdP1Mar3 ∧
    decodeAccess 0b00101100 0 = some .rdP1Mar4 ∧
    decodeAccess 0b00101101 0 = some .rdP1Mar5 ∧
    decodeAccess 0b00101110 0 = some .rdP1Mar6 ∧
    decodeAccess 0b00101111 0 = some .rdP1Mar7 := by decide

theorem test_decode_page1_writes :
    decodeAccess 0b10100001 0xA5 = some (.wrP1Par0 0xA5) ∧
    decodeAccess 0b10100010 0xA5 = some (.wrP1Par1 0xA5) ∧
    decodeAccess 0b10100011 0xA5 = some (.wrP1Par2 0xA5) ∧
    decodeAccess 0b10100100 0xA5 = some (.wrP1Par3 0xA5) ∧
    decodeAccess 0b10100101 0xA5 = some (.wrP1Par4 0xA5) ∧
    decodeAccess 0b10100110 0xA5 = some (.wrP1Par5 0xA5) ∧
    decodeAccess 0b10100111 0xA5 = some (.wrP1Curr 0xA5) ∧
    decodeAccess 0b10101000 0xA5 = some (.wrP1Mar0 0xA5) ∧
    decodeAccess 0b10101001 0xA5 = some (.wrP1Mar1 0xA5) ∧
    decodeAccess 0b10101010 0xA5 = some (.wrP1Mar2 0xA5) ∧
    decodeAccess 0b10101011 0xA5 = some (.wrP1Mar3 0xA5) ∧
    decodeAccess 0b10101100 0xA5 = some (.wrP1Mar4 0xA5) ∧
    decodeAccess 0b10101101 0xA5 = some (.wrP1Mar5 0xA5) ∧
    decodeAccess 0b10101110 0xA5 = some (.wrP1Mar6 0xA5) ∧
    decodeAccess 0b10101111 0xA5 = some (.wrP1Mar7 0xA5) := by decide

theorem test_decode_page2_reads :
    decodeAccess 0b01000001 0 = some .rdP2Pstart ∧
    decodeAccess 0b01000010 0 = some .rdP2Pstop ∧
    decodeAccess 0b01000011 0 = some .rdP2Rnpp ∧
    decodeAccess 0b01000100 0 = some .rdP2Tpsr ∧
    decodeAccess 0b01000101 0 = some .rdP2Lnpp ∧
    decodeAccess 0b01000110 0 = some .rdP2Acu ∧
    decodeAccess 0b01000111 0 = some .rdP2Acl ∧
    decodeAccess 0b01001000 0 = some .rdP2Rsv8 ∧
    decodeAccess 0b01001001 0 = some .rdP2Rsv9 ∧
    decodeAccess 0b01001010 0 = some .rdP2Rsva ∧
    decodeAccess 0b01001011 0 = some .rdP2Rsvb ∧
    decodeAccess 0b01001100 0 = some .rdP2Rcr ∧
    decodeAccess 0b01001101 0 = some .rdP2Tcr ∧
    decodeAccess 0b01001110 0 = some .rdP2Dcr ∧
    decodeAccess 0b01001111 0 = some .rdP2Imr := by decide

theorem test_decode_page2_writes :
    decodeAccess 0b11000001 0xA5 = some (.wrP2Clda0 0xA5) ∧
    decodeAccess 0b11000010 0xA5 = some (.wrP2Clda1 0xA5) ∧
    decodeAccess 0b11000011 0xA5 = some (.wrP2Rnpp 0xA5) ∧
    decodeAccess 0b11000100 0xA5 = some (.wrP2Rsv4 0xA5) ∧
    decodeAccess 0b11000101 0xA5 = some (.wrP2Lnpp 0xA5) ∧
    decodeAccess 0b11000110 0xA5 = some (.wrP2Acu 0xA5) ∧
    decodeAccess 0b11000111 0xA5 = some (.wrP2Acl 0xA5) ∧
    decodeAccess 0b11001000 0xA5 = some (.wrP2Rsv8 0xA5) ∧
    decodeAccess 0b11001001 0xA5 = some (.wrP2Rsv9 0xA5) ∧
    decodeAccess 0b11001010 0xA5 = some (.wrP2Rsva 0xA5) ∧
    decodeAccess 0b11001011 0xA5 = some (.wrP2Rsvb 0xA5) ∧
    decodeAccess 0b11001100 0xA5 = some (.wrP2Rsvc 0xA5) ∧
    decodeAccess 0b11001101 0xA5 = some (.wrP2Rsvd 0xA5) ∧
    decodeAccess 0b11001110 0xA5 = some (.wrP2Rsve 0xA5) ∧
    decodeAccess 0b11001111 0xA5 = some (.wrP2Rsvf 0xA5) := by decide

theorem test_decode_page3_reads :
    decodeAccess 0b01100001 0 = some .rdP31 ∧
    decodeAccess 0b01100010 0 = some .rdP32 ∧
    decodeAccess 0b01100011 0 = some .rdP33 ∧
    decodeAccess 0b01100100 0 = some .rdP34 ∧
    decodeAccess 0b01100101 0 = some .rdP35 ∧
    decodeAccess 0b01100110 0 = some .rdP36 ∧
    decodeAccess 0b01100111 0 = some .rdP37 ∧
    decodeAccess 0b01101000 0 = some .rdP38 ∧
    decodeAccess 0b01101001 0 = some .rdP39 ∧
    decodeAccess 0b01101010 0 = some .rdP3A ∧
    decodeAccess 0b01101011 0 = some .rdP3B ∧
    decodeAccess 0b01101100 0 = some .rdP3C ∧
    decodeAccess 0b01101101 0 = some .rdP3D ∧
    decodeAccess 0b01101110 0 = some .rdP3E ∧
    decodeAccess 0b01101111 0 = some .rdP3F := by decide

theorem test_decode_page3_writes :
    decodeAccess 0b11100001 0xA5 = some (.wrP31 0xA5) ∧
    decodeAccess 0b11100010 0xA5 = some (.wrP32 0xA5) ∧
    decodeAccess 0b11100011 0xA5 = some (.wrP33 0xA5) ∧
    decodeAccess 0b11100100 0xA5 = some (.wrP34 0xA5) ∧
    decodeAccess 0b11100101 0xA5 = some (.wrP35 0xA5) ∧
    decodeAccess 0b11100110 0xA5 = some (.wrP36 0xA5) ∧
    decodeAccess 0b11100111 0xA5 = some (.wrP37 0xA5) ∧
    decodeAccess 0b11101000 0xA5 = some (.wrP38 0xA5) ∧
    decodeAccess 0b11101001 0xA5 = some (.wrP39 0xA5) ∧
    decodeAccess 0b11101010 0xA5 = some (.wrP3A 0xA5) ∧
    decodeAccess 0b11101011 0xA5 = some (.wrP3B 0xA5) ∧
    decodeAccess 0b11101100 0xA5 = some (.wrP3C 0xA5) ∧
    decodeAccess 0b11101101 0xA5 = some (.wrP3D 0xA5) ∧
    decodeAccess 0b11101110 0xA5 = some (.wrP3E 0xA5) ∧
    decodeAccess 0b11101111 0xA5 = some (.wrP3F 0xA5) := by decide

theorem test_decode_ignores_page : decodeAccess 0b01100000 0 = some .rdCr ∧ decodeAccess 0b11111111 7 = some (.wrReset 7) ∧
    decodeAccess 0b00110101 0 = some .rdData15 := by decide

theorem test_decode_takes_the_data_byte : decode [0b10000111, 0x41, 0x99] = .ok (.wrP0Isr 0x41, [0x99]) := rfl

theorem test_decode_rejects_cut_write : decode [0b10000111] = .error .noDataByte := rfl

theorem test_decode_rejects_nothing : decode [] = .error .noDescriptor := rfl

theorem test_table_word : decodeTableWord 8 0x27 = some .rdP1Curr ∧ decodeTableWord 8 0x8F = some (.wrP0Imr 0) := by decide

/-! ### The command register (section 2.1 of the vectors) -/

/-- C-1: `outb 00, 00` gives 0x20. -/
theorem test_cr_coerces_command :
    after (fun t => (t.cr.toByte, t.isr.toByte)) (exec (.wrCr 0x00) State.reset) = some (0x20, 0x80) := by decide

/-- C-5: `outb 00, FF` gives CR 0xFB, TSR 0x01, ISR 0x82, one empty frame sent. -/
theorem test_cr_all_ones :
    after (fun t => (t.cr.toByte, t.tsr.toByte, t.isr.toByte, t.sent)) (exec (.wrCr 0xFF) State.reset) =
      some (0xFB, 0x01, 0x82, [[]]) := by decide

/-- W1: S0 reads CR 0x21. -/
theorem test_cr_read : got (exec .rdCr State.reset) = some 0x21 := by decide

/-! ### Page 0 -/

/-- R113 and R114 by section 2.3: `local_dma` = 0x1234 reads 34, then 12. -/
theorem test_clda_read :
    got (exec .rdP0Clda0 { State.reset with localDma := 0x1234 }) = some 0x34 ∧
    got (exec .rdP0Clda1 { State.reset with localDma := 0x1234 }) = some 0x12 := by decide

theorem test_bnry_read : got (exec .rdP0Bnry { State.reset with boundPtr := 0x46 }) = some 0x46 := by decide

/-- R26: TSR after a transmission reads 0x01. -/
theorem test_tsr_read : got (exec .rdP0Tsr { State.reset with tsr := { txOk := true } }) = some 0x01 := by decide

/-- R33, R34: counters that never change read 0. -/
theorem test_counter_reads :
    (got (exec .rdP0Ncr State.reset), got (exec .rdP0Fifo State.reset), got (exec .rdP0Cntr0 State.reset),
      got (exec .rdP0Cntr1 State.reset), got (exec .rdP0Cntr2 State.reset)) =
      (some 0, some 0, some 0, some 0, some 0) := by decide

/-- W1: S0 reads ISR 0x80. -/
theorem test_isr_read : got (exec .rdP0Isr State.reset) = some 0x80 := by decide

/-- M3: `remote_dma` = 0x4600 reads 00, then 46. -/
theorem test_crda_read :
    got (exec .rdP0Crda0 { State.reset with remoteDma := 0x4600 }) = some 0x00 ∧
    got (exec .rdP0Crda1 { State.reset with remoteDma := 0x4600 }) = some 0x46 := by decide

/-- Section 5: RSR after a multicast frame is 0x21. -/
theorem test_rsr_read :
    got (exec .rdP0Rsr { State.reset with rsr := { rxOk := true, rxMbit := true } }) = some 0x21 := by decide

/-- Section 2.5: with `ReservedRead(p, o)` = 0xFF every reserved read gives FF. -/
theorem test_reserved_reads :
    let s : State := { State.reset with cfg := { State.reset.cfg with reserved := Vector.replicate 64 0xFF } }
    (got (exec .rdP0Rsv0a s), got (exec .rdP0Rsv0b s), got (exec .rdP2Rsv8 s), got (exec .rdP2Rsvb s),
      got (exec .rdP31 s), got (exec .rdP3F s)) =
      (some 0xFF, some 0xFF, some 0xFF, some 0xFF, some 0xFF, some 0xFF) := by decide

/-- D28: each reserved offset has its own byte; page 2 offset 8 is not page 3 offset 8. -/
theorem test_reserved_reads_differ :
    let s : State :=
      { State.reset with cfg := { State.reset.cfg with reserved := (Vector.replicate 64 0).set 40 0x12 } }
    got (exec .rdP2Rsv8 s) = some 0x12 ∧ got (exec .rdP38 s) = some 0 := by decide

/-- Section 2.6: TBCR0 0x3C and TBCR1 0x01 give 0x013C. -/
theorem test_tbcr_halves :
    after State.txBytes (exec (.wrP0Tbcr0 0x3C) { State.reset with txBytes := 0x0100 }) = some 0x013C ∧
    after State.txBytes (exec (.wrP0Tbcr1 0x01) { State.reset with txBytes := 0x003C }) = some 0x013C := by decide

/-- I-1 and I-2: the level falls only when the masked status is 0. -/
theorem test_isr_write_keeps_level :
    after (fun t => (t.isr.toByte, t.irqLevel))
      (exec (.wrP0Isr 0x01) { State.reset with isr := Isr.ofByte 0xC3, imr := Imr.ofByte 0x43, irqLevel := true }) =
      some (0xC2, true) := by decide

theorem test_isr_write_lowers :
    after (fun t => (t.isr.toByte, t.irqLevel))
      (exec (.wrP0Isr 0x42) { State.reset with isr := Isr.ofByte 0xC2, imr := Imr.ofByte 0x43, irqLevel := true }) =
      some (0x80, false) := by decide

/-- R135 and R136: each half write reloads `remote_dma` from the whole of `remote_start`. -/
theorem test_rsar_loads_remote_dma :
    after (fun t => (t.remoteStart, t.remoteDma))
      (exec (.wrP0Rsar0 0xFC) { State.reset with remoteStart := 0x5300, remoteDma := 0x1111 }) = some (0x53FC, 0x53FC) ∧
    after (fun t => (t.remoteStart, t.remoteDma))
      (exec (.wrP0Rsar1 0x53) { State.reset with remoteStart := 0x00FC, remoteDma := 0x1111 }) = some (0x53FC, 0x53FC) := by
  decide

/-- R137 and R138: `ISR.rdma_done` is not touched. -/
theorem test_rbcr_keeps_rdma_done :
    after (fun t => (t.remoteBytes, t.isr.toByte))
      (exec (.wrP0Rbcr0 0x0C) { State.reset with isr := Isr.ofByte 0xC0, remoteBytes := 0x0100 }) = some (0x010C, 0xC0) ∧
    after State.remoteBytes (exec (.wrP0Rbcr1 0x01) { State.reset with remoteBytes := 0x000C }) = some 0x010C := by decide

/-- Section 2.3: FF written to RCR, TCR, DCR, IMR reads back 3F, 1F, 7F, 7F on page 2. -/
theorem test_write_masks :
    (after (fun t => t.rcr.toByte) (exec (.wrP0Rcr 0xFF) State.reset), after (fun t => t.tcr.toByte) (exec (.wrP0Tcr 0xFF) State.reset),
      after (fun t => t.dcr.toByte) (exec (.wrP0Dcr 0xFF) State.reset), after (fun t => t.imr.toByte) (exec (.wrP0Imr 0xFF) State.reset)) =
      (some 0x3F, some 0x1F, some 0x7F, some 0x7F) := by decide

/-- I-4: an IMR write neither asserts nor raises the level. -/
theorem test_imr_write_never_asserts :
    after (fun t => (t.imr.toByte, t.irqLevel, t.asserts)) (exec (.wrP0Imr 0x01) { State.reset with isr := Isr.ofByte 0x81 }) =
      some (0x01, false, []) := by decide

/-! ### Page 1 (section 2.4) -/

theorem test_par_reads :
    (got (exec .rdP1Par0 State.reset), got (exec .rdP1Par1 State.reset), got (exec .rdP1Par2 State.reset),
      got (exec .rdP1Par3 State.reset), got (exec .rdP1Par4 State.reset), got (exec .rdP1Par5 State.reset)) =
      (some 0x52, some 0x54, some 0x00, some 0x12, some 0x34, some 0x56) := by decide

theorem test_par_write_ignored : after State.physaddr (exec (.wrP1Par0 0xAA) State.reset) = some State.reset.physaddr := by decide

theorem test_mar_write :
    after (fun t => (t.mchash[7], t.mchash[6])) (exec (.wrP1Mar7 0x5A) State.reset) = some (0x5A, 0x00) := by decide

theorem test_curr_write : after State.currPage (exec (.wrP1Curr 0x4C) State.reset) = some 0x4C := by decide

/-! ### Page 2 (section 2.3) -/

theorem test_page_two_reads :
    let s : State := { State.reset with pageStart := 0x46, pageStop := 0x60, txPageStart := 0x40, rcr := Rcr.ofByte 0x1C }
    (got (exec .rdP2Pstart s), got (exec .rdP2Pstop s), got (exec .rdP2Tpsr s), got (exec .rdP2Rcr s), got (exec .rdP2Dcr s)) =
      (some 0x46, some 0x60, some 0x40, some 0x1C, some 0x04) := by decide

theorem test_page_two_tpsr_write_ignored :
    after State.txPageStart (exec (.wrP2Rsv4 0x55) { State.reset with txPageStart := 0x40 }) = some 0x40 := by decide

theorem test_clda_write :
    after State.localDma (exec (.wrP2Clda0 0x34) { State.reset with localDma := 0x1200 }) = some 0x1234 ∧
    after State.localDma (exec (.wrP2Clda1 0x12) { State.reset with localDma := 0x0034 }) = some 0x1234 := by decide

/-- R190 and R191: ACU is the high byte, ACL the low byte. -/
theorem test_address_counter_halves :
    after State.addressCnt (exec (.wrP2Acu 0x12) { State.reset with addressCnt := 0x0034 }) = some 0x1234 ∧
    after State.addressCnt (exec (.wrP2Acl 0x34) { State.reset with addressCnt := 0x1200 }) = some 0x1234 := by decide

/-! ### Remote DMA (section 3) -/

/-- M1, first read: 52, two bytes on in word mode. -/
theorem test_data_read_word_mode :
    after (fun t => (t.readData, t.remoteDma, t.remoteBytes))
      (exec .rdData10 { State.reset with dcr := Dcr.ofByte 0x49, remoteBytes := 12 }) = some (some 0x52, 2, 10) := by decide

/-- M4: the count stops at 0 and `rdma_done` is set. -/
theorem test_data_read_clamps :
    after (fun t => (t.readData, t.remoteDma, t.remoteBytes, t.isr.toByte))
      (exec .rdData10 { State.reset with dcr := Dcr.ofByte 0x49, remoteBytes := 1 }) = some (some 0x52, 2, 0, 0xC0) := by decide

/-- M3: from 0x5FFF the address wraps to `page_start`. -/
theorem test_data_read_wraps :
    after (fun t => (t.readData, t.remoteDma))
      (exec .rdData10
        { State.reset with pageStart := 0x46, pageStop := 0x60, mem := [(0x1FFF, 0xAB)], remoteDma := 0x5FFF, remoteBytes := 2 }) =
      some (some 0xAB, 0x4600) := by decide

/-- M8, second read: the address wraps at 0xFFFF, where `page_stop * 256` = 0 moves it to `page_start * 256`. -/
theorem test_data_read_wraps_at_top :
    after (fun t => (t.readData, t.remoteDma)) (exec .rdData10 { State.reset with remoteDma := 0xFFFF, remoteBytes := 2 }) =
      some (some 0xFF, 0) := by decide

/-- M9, second read: a read at count 0 asserts again. -/
theorem test_data_read_at_zero_asserts :
    after (fun t => (t.asserts, t.remoteBytes))
      (exec .rdData1e { State.reset with imr := Imr.ofByte 0x40, isr := Isr.ofByte 0xC0, remoteDma := 0x4001, asserts := [9] }) =
      some ([9, 9], 0) := by decide

/-- M5: stored at count 2, dropped at count 0. -/
theorem test_data_write_stores :
    after (fun t => (t.mem, t.remoteDma, t.remoteBytes)) (exec (.wrData10 0x11) { State.reset with remoteDma := 0x4000, remoteBytes := 2 }) =
      some ([(0, 0x11)], 0x4001, 1) := by decide

theorem test_data_write_dropped :
    after (fun t => (t.mem, t.remoteDma)) (exec (.wrData1e 0x33) { State.reset with mem := [(0, 0x11), (1, 0x22)], remoteDma := 0x4002 }) =
      some ([(0, 0x11), (1, 0x22)], 0x4002) := by decide

/-- M6: 0x8000 is not stored, and the address and count go on. -/
theorem test_data_write_unbacked :
    after (fun t => (t.mem, t.remoteDma, t.remoteBytes)) (exec (.wrData15 0x33) { State.reset with remoteDma := 0x8000, remoteBytes := 1 }) =
      some ([], 0x8001, 0) := by decide

/-- A byte 0 written takes its cell out of the list. -/
theorem test_data_write_zero :
    after State.mem (exec (.wrData10 0) { State.reset with mem := [(0, 0x11), (1, 0x22)], remoteDma := 0x4000, remoteBytes := 2 }) =
      some [(1, 0x22)] := by decide

/-- Q1 and Q5: the probe asserts with `start` set, and not without it. -/
theorem test_probe :
    after (fun t => (t.isr.toByte, t.asserts)) (exec (.wrCr 0x0A) { State.reset with imr := Imr.ofByte 0x40 }) = some (0xC0, [9]) ∧
    after (fun t => (t.isr.toByte, t.asserts)) (exec (.wrCr 0x08) { State.reset with imr := Imr.ofByte 0x40 }) = some (0x80, []) := by
  decide

/-- S1: the boundary packet's address and length. -/
theorem test_send_packet :
    after (fun t => (t.remoteStart, t.remoteDma, t.remoteBytes))
      (exec (.wrCr 0x1A)
        { State.reset with
          cfg := { State.reset.cfg with sendpktMode := .ds8390 }, boundPtr := 0x47, mem := [(0x702, 0x44)] }) =
      some (0x4700, 0x4700, 0x0044) := by decide

/-- S2: nothing under None. -/
theorem test_send_packet_none :
    after (fun t => (t.cr.toByte, t.remoteDma, t.remoteBytes))
      (exec (.wrCr 0x1A) { State.reset with boundPtr := 0x47, mem := [(0x702, 0x44)] }) = some (0x1A, 0, 0) := by decide

/-! ### The reset port (X1, X2) -/

theorem test_reset_read :
    after (fun t => [t.cr.toByte, t.currPage, t.imr.toByte, t.rcr.toByte, t.mchash[0]])
      (exec .rdReset
        { State.reset with
          cr := Cr.mk 1 4 false true false, rcr := Rcr.ofByte 0x1F, imr := Imr.ofByte 0x7F, currPage := 0x99
          mchash := Vector.replicate 8 1 }) = some [0x21, 0, 0, 0, 0x01] := by decide

theorem test_reset_write : after State.pageStart (exec (.wrReset 0) ringState) = some 0x46 := by decide

/-! ### The multicast hash (section 4) -/

set_option maxRecDepth 8000 in
theorem test_mcast_index :
    mcastIndex #v[0x01, 0x00, 0x5E, 0x00, 0x00, 0xFB] = 15 ∧ mcastIndex #v[0x33, 0x33, 0xFF, 0x12, 0x34, 0x56] = 2 ∧
      mcastIndex #v[0xCF, 0x00, 0x00, 0x00, 0x00, 0x00] = 47 := by decide

/-! ### Receive (section 5) -/

/-- A 60-byte broadcast: one page on, RSR 0x21, ISR 0x01, one assert. -/
theorem test_receive_broadcast :
    let t := receive (frameTo everyone 60) ringState
    (t.currPage, t.rsr.toByte, t.isr.toByte, t.asserts) = (0x48, 0x21, 0x01, [9]) := by decide

/-- The header at 0x4700 of a 60-byte broadcast: 21 48 40 00. -/
theorem test_receive_header :
    header (destination (padded (frameTo everyone 60))) (nextPage ringState (pagesRequired 60)) 60 =
      [0x21, 0x48, 0x40, 0x00] := by decide

/-- 249 bytes take two pages: header 21 49 FD 00. -/
theorem test_receive_header_two_pages :
    header (destination (padded (frameTo everyone 249))) (nextPage ringState (pagesRequired 249)) 249 =
      [0x21, 0x49, 0xFD, 0x00] := by decide

/-- W9: ring position 256 from page 0x5F is 0x4600. -/
theorem test_ring_splits :
    ringAddr { ringState with currPage := 0x5F } 255 = 0x5FFF ∧ ringAddr { ringState with currPage := 0x5F } 256 = 0x4600 := by decide

/-- W8: free pages at the six pointer pairs. -/
theorem test_free_pages :
    (freePages ringState, freePages { ringState with boundPtr := 0x48 }, freePages { ringState with boundPtr := 0x47 },
      freePages { ringState with boundPtr := 0x50 }, freePages { ringState with boundPtr := 0x47, currPage := 0x5F },
      freePages { ringState with currPage := 0x5F }) = (25, 1, 26, 9, 2, 1) := by decide

/-- PSTART 0x46, PSTOP 0x40, CURR 0x41, BNRY 0x50: a ring invariant the guest has broken (R297). -/
def noRingState : State := { ringState with pageStop := 0x40, currPage := 0x41, boundPtr := 0x50 }

/-- R223 by hand: 0x50 - 0x41 = 15 free pages, so R224 lets a frame of one page in. -/
theorem test_broken_ring :
    freePages noRingState = 15 ∧ acceptsFrame noRingState (frameTo everyone 60) = true := by decide

/-- W8: 1 free page refuses a frame of one page. -/
theorem test_receive_full : acceptsFrame { ringState with boundPtr := 0x48 } (frameTo everyone 60) = false := by decide

/-- Runts: 39 bytes are dropped without `runts_ok`, 40 are not a runt. -/
theorem test_runts :
    (acceptsFrame ringState (frameTo everyone 39), acceptsFrame ringState (frameTo everyone 40),
      acceptsFrame { ringState with rcr := Rcr.ofByte 0x06 } (frameTo everyone 39)) = (false, true, true) := by decide

/-- The unicast filter. -/
theorem test_unicast_filter :
    (acceptsFrame ringState (frameTo station 60), acceptsFrame ringState (frameTo [0x52, 0x54, 0, 0x12, 0x34, 0x57] 60),
      acceptsFrame { ringState with rcr := Rcr.ofByte 0x10 } (frameTo [0x52, 0x54, 0, 0x12, 0x34, 0x57] 60)) =
      (true, false, true) := by decide

/-! ### Transmit (section 6) -/

/-- T1. -/
theorem test_transmit :
    after (fun t => [t.cr.toByte, t.tsr.toByte, t.isr.toByte]) (exec (.wrCr 0x26) transmitState) = some [0x22, 0x01, 0x82] ∧
    after (fun t => (t.sent, t.asserts)) (exec (.wrCr 0x26) transmitState) = some ([[1, 2, 3, 4]], [9]) := by decide

/-- T6: deferred. -/
theorem test_transmit_deferred :
    let s : State := { transmitState with cfg := { State.reset.cfg with txDeferred := true } }
    after (fun t => [t.cr.toByte, t.tsr.toByte, t.isr.toByte]) (exec (.wrCr 0x26) s) = some [0x26, 0x00, 0x80] ∧
    after (fun t => (t.sent, t.asserts)) (exec (.wrCr 0x26) s) = some ([[1, 2, 3, 4]], []) := by decide

/-- T7: deferred completion. -/
theorem test_txdone :
    after (fun t => (t.cr.toByte, t.isr.toByte, t.tsr.toByte, t.asserts, t.txPending)) (step { pendingState with inputs := [.txdone] }) =
      some (0x22, 0x82, 0x01, [9], false) := by decide

/-- T8: overlap. -/
theorem test_transmit_overlap : exec (.wrCr 0x26) pendingState = .fault .txOverlap := rfl

/-- T9: loopback mode 1, receive before transmit. -/
theorem test_loopback :
    let s : State :=
      { ringState with
        tcr := Tcr.ofByte 0x02, rcr := Rcr.ofByte 0x10, imr := Imr.ofByte 0x03, txPageStart := 0x40, txBytes := 60
        mem := [(0, 0xFF), (1, 0xFF), (2, 0xFF), (3, 0xFF), (4, 0xFF), (5, 0xFF)] }
    after (fun t => [t.cr.toByte, t.isr.toByte, t.rsr.toByte, t.tsr.toByte, t.currPage]) (exec (.wrCr 0x26) s) =
      some [0x22, 0x03, 0x21, 0x00, 0x48] ∧
    after (fun t => (t.asserts, t.sent)) (exec (.wrCr 0x26) s) = some ([9, 9], []) := by decide

/-- T12: loopback mode 2 does nothing. -/
theorem test_loopback_two :
    after (fun t => (t.isr.toByte, t.tsr.toByte, t.asserts, t.sent))
      (exec (.wrCr 0x26) { State.reset with tcr := Tcr.ofByte 0x04, imr := Imr.ofByte 0x03, txBytes := 60 }) =
      some (0x80, 0x00, [], []) := by decide

/-! ### Steps -/

/-- The bytes and the count after events on a state. -/
def afterAll (events : List Event) (s : State) : Option (List Byte × Word) :=
  match performAll events s with
  | .next (t, bytes) => some (bytes, t.remoteBytes)
  | _ => none

/-- M12: RSAR 0x4000, RBCR 2, `mem` = 12 34; `inw 10` gives 0x3412 and leaves the count 0. -/
theorem test_inw :
    afterAll (inw State.reset.cfg 0x10)
      { State.reset with remoteDma := 0x4000, remoteBytes := 2, mem := [(0, 0x12), (1, 0x34)] } = some ([0x12, 0x34], 0) ∧
    inwResult [0x12, 0x34] = some 0x3412 := by decide

/-- R107: `page 1` with VAL = 0x61 is `outb 00, 61`. -/
theorem test_page : page State.reset.cfg 1 0x21 = outb State.reset.cfg 0 0x61 := rfl

/-- A port below or above the block's 32 is not its own (R90). -/
theorem test_port_claim :
    (claimedOffset State.reset.cfg 0x2FF, claimedOffset State.reset.cfg 0x300, claimedOffset State.reset.cfg 0x31F,
      claimedOffset State.reset.cfg 0x320) = (none, some 0, some 31, none) := by decide

/-- The step takes the page from CR: page 1, offset 7 is CURR. -/
theorem test_step_selects_the_page :
    got (step { State.reset with cr := Cr.mk 1 4 false false true, currPage := 0x4C, inputs := [.read 0x307] }) = some 0x4C := by decide

/-- `withFetchWord` makes the next step run a page-2 write from reset. -/
theorem test_fetch_word :
    after State.localDma (step (State.reset.withFetchWord 16 0x34C1)) = some 0x0034 := by decide

/-- `init` after another life of the block is S0 again (R291). -/
theorem test_init : after (fun t => (t.cr.toByte, t.pageStart, t.macaddr[12], t.asserts))
    (step { ringState with asserts := [9], inputs := [.init #v[0x52, 0x54, 0x00, 0x12, 0x34, 0x56] 9] }) =
      some (0x21, 0, 0x57, [9]) := by decide

/-! ### Witnesses: states and operands that meet the hypotheses of the statements, clause by clause -/

/-- A state other than reset that meets the invariant, with a configured ring. -/
theorem ringState_inv : ringState.Inv where
  memory := Memory.wf_nil
  params := by decide
  command := by decide
  transmitting := rfl
  synchronous := fun _ => rfl
  isrUnset := ⟨rfl, rfl, rfl, rfl⟩
  tsrUnset := rfl
  rsrUnset := rfl
  countersZero := ⟨rfl, rfl, rfl, rfl, rfl⟩
  pageThreeZero := rfl
  prom := rfl

theorem ringState_configured : RingConfigured ringState := by
  unfold RingConfigured
  decide

theorem witness_DescriptorHoldsDirectionPageOffset :
    decodeAccess 0x81 0x46 = some (.wrP0Pstart 0x46) ∧ (0x7F : Byte).getLsbD 7 = false ∧ (0x80 : Byte).getLsbD 7 = true := by
  decide

theorem witness_EveryDescriptorDecodesToExactlyOneRow :
    (0xFF : Byte) &&& (Instr.wrReset 3).mask = (Instr.wrReset 3).pattern ∧ (Instr.wrReset 3).dataByte = some 3 := by decide

theorem witness_DecodeReadsBackEveryEncoding : (Instr.wrP1Mar7 0xFF).wf = true := rfl

theorem witness_DecodeDropsOnlyIgnoredPageBits : decode [0xFF, 0x00, 0x07] = .ok (.wrReset 0x00, [0x07]) := rfl

theorem witness_CommandDataAndResetPortsIgnoreThePage :
    (0x10 ≤ (0x10#5).toNat ∧ (0x10#5).toNat ≤ 0x1E) ∧ (0x10 ≤ (0x1E#5).toNat ∧ (0x1E#5).toNat ≤ 0x1E) := by decide

theorem witness_StepRunsTheDecodedAccess :
    (State.reset.cfg.ioBase ≤ 0x300 ∧ 0x300 ≤ State.reset.cfg.ioBase + 0x1F) ∧
    (State.reset.cfg.ioBase ≤ 0x31F ∧ 0x31F ≤ State.reset.cfg.ioBase + 0x1F) ∧
    (0x2FF < State.reset.cfg.ioBase ∧ State.reset.cfg.ioBase + 0x1F < 0x320) ∧
    ({ State.reset with inputs := [.read 0x300] } : State).inputs = .read 0x300 :: [] ∧
    ({ State.reset with inputs := [.write 0x31F 5] } : State).inputs = .write 0x31F 5 :: [] := by decide

theorem witness_StepPerformsTheOtherAgents :
    ({ pendingState with inputs := [.txdone] } : State).inputs = .txdone :: [] ∧ pendingState.txPending = true ∧
    ({ ringState with inputs := [.frame [1]] } : State).inputs = .frame [1] :: [] ∧
    ({ ringState with inputs := [.init State.reset.physaddr 9] } : State).inputs = .init State.reset.physaddr 9 :: [] ∧
    ringState.inputs = [] := by decide

theorem witness_OnlyTransmitOverlapFaults :
    ((0x26 : Byte).getLsbD 2 = true ∧ pendingState.tcr.loopCntl = 0#2 ∧ pendingState.txPending = true) ∧
    step { pendingState with inputs := [.write 0x300 0x26] } = .fault .txOverlap ∧
    step { ringState with inputs := [.txdone] } = .refused .noCompletionPending ∧
    ringState.Inv ∧ ringState.cfg.txDeferred = false :=
  ⟨by decide, rfl, rfl, ringState_inv, rfl⟩

theorem witness_CommandReadAssemblesItsFields :
    (0x60 : Byte) &&& 0x9F = 0x00 ∧ ringState.Inv ∧ ringState.cfg.txDeferred = false := ⟨by decide, ringState_inv, rfl⟩

theorem witness_CommandWriteRunsItsProcedure : (0xE0 : Byte) &&& 0x9F = 0x80 := by decide

theorem witness_CommandWriteCompletesWithItsFields :
    ((0x22 : Byte).getLsbD 2 = false ∧ pendingState.tcr.loopCntl = 0#2) ∧
    ((0x26 : Byte).getLsbD 2 = true ∧ ({ pendingState with tcr := Tcr.ofByte 2 } : State).tcr.loopCntl ≠ 0#2) ∧
    ((0x26 : Byte).getLsbD 2 = true ∧ ringState.tcr.loopCntl ≠ 1#2 ∧ ringState.txPending = false) ∧
    (0x22 : Byte).extractLsb' 3 3 ≠ 3#3 ∧ Memory.wf ringState.mem ∧
    (∀ n, n < (padded (transmitRegion ringState)).length + 8 → ringAddr ringState n ≠ 0x4000) := by decide

theorem witness_ProbeRunsAtTheCommandWrite :
    (0x0A : Byte).getLsbD 2 = false ∧ (0x0A : Byte).extractLsb' 3 3 = 1#3 ∧ (0x0A : Byte).getLsbD 1 = true ∧
    ringState.remoteBytes = 0#16 ∧ (after (fun _ => ()) (exec (.wrCr 0x0A) ringState)) = some () := by decide

theorem witness_SendPacketLoadsTheBoundaryPacket :
    (0x1A : Byte).getLsbD 2 = false ∧ (0x1A : Byte).extractLsb' 3 3 = 3#3 ∧ ringState.cfg.sendpktMode = .none ∧
    ({ ringState.cfg with sendpktMode := .ds8390 } : Config).sendpktMode = .ds8390 := by decide

theorem witness_ExternalTransmitSendsAndCompletes :
    ((0x26 : Byte).getLsbD 2 = true ∧ transmitState.tcr.loopCntl = 0#2 ∧ transmitState.txPending = false ∧
      transmitState.cfg.txDeferred = false) ∧
    (pendingState.tcr.loopCntl = 0#2 ∧ pendingState.txPending = true) ∧
    (({ pendingState with txPending := false } : State).cfg.txDeferred = true ∧
      ({ pendingState with txPending := false } : State).txPending = false) ∧
    ({ pendingState with inputs := [.txdone] } : State).inputs = .txdone :: [] ∧
    ({ ringState with inputs := [.txdone] } : State).inputs = .txdone :: [] := by decide

theorem witness_LoopbackFeedsTheReceiveEngine :
    (0x26 : Byte).getLsbD 2 = true ∧ ({ ringState with tcr := Tcr.ofByte 2 } : State).tcr.loopCntl = 1#2 ∧
    ({ ringState with tcr := Tcr.ofByte 4 } : State).tcr.loopCntl = 2#2 ∧
    ({ ringState with tcr := Tcr.ofByte 6 } : State).tcr.loopCntl = 3#2 := by decide

theorem witness_StoppedOrEmptyTransmitStillRuns :
    ((0x25 : Byte).getLsbD 2 = true ∧ ringState.tcr.loopCntl = 0#2 ∧ ringState.txPending = false ∧ ringState.txBytes = 0#16) ∧
    ((0x25 : Byte).getLsbD 0 = true ∧ ({ ringState with tcr := Tcr.ofByte 2 } : State).tcr.loopCntl = 1#2) ∧
    ringState.rcr.runtsOk = false := by decide

theorem witness_RingPointersReadAndWrite :
    ((0x81 : Byte) &&& 0xFF = 0x81 ∧ (0xA7 : Byte) &&& 0xFF = 0xA7 ∧ (0x44 : Byte) &&& 0xFF = 0x44) ∧
    (after (fun _ => ()) (exec (.wrP0Imr 0) ringState) = some () ∧ (Instr.wrP0Imr 0).pattern ≠ 0x81#8 ∧
      (Instr.wrP0Imr 0).pattern ≠ 0xA7#8 ∧ (Instr.wrP0Imr 0).pattern ≠ 0x1F#8 ∧ (Instr.wrP0Imr 0).pattern ≠ 0x80#8) ∧
    State.reset.pageStart = 0#8 := by decide

theorem witness_TransmitCountIsWrittenByHalves :
    (0x85 : Byte) &&& 0xFF = 0x85 ∧ ∃ t u, exec (.wrP0Tbcr0 0x3C) ringState = .next t ∧ exec (.wrP0Tbcr1 0x01) t = .next u :=
  ⟨by decide, _, _, rfl, rfl⟩

theorem witness_RemoteStartLoadsTheRemoteAddress :
    (0x88 : Byte) &&& 0xFF = 0x88 ∧
    (∃ t u, exec (.wrP0Rsar0 0xFC) ringState = .next t ∧ exec (.wrP0Rsar1 0x53) t = .next u) ∧
    (∃ t u, exec (.wrP0Rsar1 0x53) ringState = .next t ∧ exec (.wrP0Rsar0 0xFC) t = .next u) :=
  ⟨by decide, ⟨_, _, rfl, rfl⟩, ⟨_, _, rfl, rfl⟩⟩

theorem witness_RemoteCountIsWrittenByHalves :
    (0x8A : Byte) &&& 0xFF = 0x8A ∧ (ringState.remoteBytes = 0#16 ∧ .wrData1e 7 ∈ dataWrites 7) ∧
    ∃ t u, exec (.wrP0Rbcr0 0x0C) ringState = .next t ∧ exec (.wrP0Rbcr1 0x01) t = .next u :=
  ⟨by decide, by decide, _, _, rfl, rfl⟩

theorem witness_ConfigurationRegistersDropReservedBits :
    (0x8C : Byte) &&& 0xFF = 0x8C ∧ (∃ t, exec (.wrP0Rcr 0xFF) ringState = .next t) ∧
    (∃ t, exec (.wrP0Tcr 0xFF) ringState = .next t) ∧ (∃ t, exec (.wrP0Dcr 0xFF) ringState = .next t) ∧
    (∃ t, exec (.wrP0Imr 0xFF) ringState = .next t) ∧
    (∃ t, exec (.wrData10 1) ringState = .next t) ∧ (Instr.wrData10 1).pattern = 0x90#8 :=
  ⟨by decide, ⟨_, rfl⟩, ⟨_, rfl⟩, ⟨_, rfl⟩, ⟨_, rfl⟩, ⟨_, rfl⟩, by decide⟩

theorem witness_IsrWriteClearsAndLowers : (0x07 : Byte) &&& 0xFF = 0x07 ∧ (0x87 : Byte) &&& 0xFF = 0x87 := by decide

theorem witness_StatusAndCounterReads :
    (0x04 : Byte) &&& 0xFF = 0x04 ∧ ringState.Inv ∧
    (∃ t, exec (.wrCr 0x26) { transmitState with tsr := { txOk := true }, rsr := { rxOk := true, rxMbit := true } } = .next t) :=
  ⟨by decide, ringState_inv, _, rfl⟩

theorem witness_StationAddressIsReadOnly :
    (0x21 : Byte) &&& 0xFF = 0x21 ∧ (0xA6 : Byte) &&& 0xFF = 0xA6 ∧ ∃ t, exec .rdReset ringState = .next t :=
  ⟨by decide, by decide, _, rfl⟩

theorem witness_MulticastTableReads :
    (0x28 : Byte) &&& 0xFF = 0x28 ∧ (∃ t, exec .rdReset ringState = .next t) ∧
    (Instr.rdReset.pattern).ule 0xAF#8 = true ∧ (0xA8#8).ule Instr.rdReset.pattern = false :=
  ⟨by decide, ⟨_, rfl⟩, by decide, by decide⟩

theorem witness_MulticastTableWrites :
    (0xAF : Byte) &&& 0xFF = 0xAF ∧ (7#6).toNat / 8 = 0 ∧ (8#6).toNat / 8 = 1 ∧ (63#6).toNat / 8 = 7 := by decide

theorem witness_LocalDmaIsHeldOnly :
    (0xC1 : Byte) &&& 0xFF = 0xC1 ∧ (∃ t, exec .rdReset ringState = .next t) ∧
    ∃ t u, exec (.wrP2Clda0 0x34) ringState = .next t ∧ exec (.wrP2Clda1 0x12) t = .next u :=
  ⟨by decide, ⟨_, rfl⟩, _, _, rfl, rfl⟩

theorem witness_PageTwoPointersAreHeldOnly :
    (0x46 : Byte) &&& 0xFF = 0x46 ∧ (∃ t, exec .rdReset ringState = .next t) ∧
    (∃ t, exec (.wrCr 0x26) ringState = .next t) ∧ (Instr.wrCr 0x26).pattern ≠ 0xC3#8 :=
  ⟨by decide, ⟨_, rfl⟩, ⟨_, rfl⟩, by decide⟩

theorem witness_ReservedReadsReturnOneFixedByte :
    (0x0A : Byte) &&& 0xFF = 0x0A ∧ (0x6F : Byte) &&& 0xFF = 0x6F ∧ (∃ t, exec (.wrP3F 1) ringState = .next t) ∧
    (Instr.wrP3F 1).pattern ≠ 0x1F#8 :=
  ⟨by decide, by decide, ⟨_, rfl⟩, by decide⟩

theorem witness_ReservedWritesChangeNothing :
    (0xC4 : Byte) &&& 0xFF = 0xC4 ∧ ∃ t, exec (.wrP2Rsv4 0x55) ringState = .next t := ⟨by decide, _, rfl⟩

theorem witness_DataPortReadReturnsAndAdvances : .rdData10 ∈ dataReads ∧ .rdData1e ∈ dataReads := by decide

theorem witness_DataPortWriteStoresAndAdvances :
    (.wrData10 7 ∈ dataWrites 7 ∧ .wrData1e 7 ∈ dataWrites 7) ∧ ringState.remoteBytes = 0#16 ∧
    (({ ringState with remoteBytes := 1 } : State).remoteBytes ≠ 0#16 ∧ Memory.wf ringState.mem) := by decide

theorem witness_TransferCountsItsLengths :
    [some 0x11, none] ≠ ([] : List (Option Byte)) ∧
    transferCounts [some 0x11, none] { ringState with remoteDma := 0x4000, remoteBytes := 2 } ∧
    ({ ringState with remoteDma := 0x4000, remoteBytes := 2 } : State).isr.rdmaDone = false :=
  ⟨by decide, ⟨fun _ => by decide, nofun, trivial⟩, rfl⟩

theorem witness_PromReadsOutTheStationAddress :
    ∃ s : State, s.Inv ∧ s.remoteDma = 0#16 ∧ s.remoteBytes = 12#16 ∧ s.dcr.wdsize = true :=
  ⟨{ ringState with dcr := { wdsize := true }, remoteBytes := 12 },
    { ringState_inv with }, rfl, rfl, rfl⟩

theorem witness_PromReadsOutTheStationAddress_byte_mode :
    ∃ s : State, s.Inv ∧ s.remoteDma = 0#16 ∧ s.remoteBytes = 12#16 ∧ s.dcr.wdsize = false :=
  ⟨{ ringState with remoteBytes := 12 }, { ringState_inv with }, rfl, rfl, rfl⟩

theorem witness_ResetPortReadResetsTheBlock :
    (0x7F : Byte) &&& 0x9F = 0x1F ∧ (32 : Int) ≤ 0x4000 ∧ (State.reset.cfg.memStart : Int) ≤ 0x4000 ∧
    (0x7FFF : Int) < (State.reset.cfg.memStart : Int) + 16384 := by decide

theorem witness_InitConstructsAndResets :
    ({ ringState with inputs := [.init State.reset.physaddr 9] } : State).inputs = .init State.reset.physaddr 9 :: [] ∧
    ringState.cfg = State.reset.cfg ∧ ringState.asserts = State.reset.asserts ∧ ringState.sent = State.reset.sent ∧
    ringState.inputs = State.reset.inputs ∧ ringState.readData = State.reset.readData ∧ ringState.draws = State.reset.draws :=
  ⟨rfl, rfl, rfl, rfl, rfl, rfl, rfl⟩

theorem witness_DroppedFrameChangesNothing :
    acceptsFrame ringState (frameTo everyone 39) = false ∧ 59 < 60 := by decide

theorem witness_AcceptedFrameMovesPointerAndFlags :
    acceptsFrame ringState (frameTo everyone 60) = true ∧
    acceptsFrame { ringState with currPage := 0x5F, boundPtr := 0x47 } (frameTo everyone 60) = true ∧ Memory.wf ringState.mem ∧
    (∀ n, n < 68 → ringAddr ringState n ≠ 0x4800) := by decide

theorem witness_AcceptedFrameStandsInTheRing :
    ringState.Inv ∧ RingConfigured ringState ∧ acceptsFrame ringState (frameTo everyone 60) = true :=
  ⟨ringState_inv, ringState_configured, by decide⟩

set_option maxRecDepth 8000 in
theorem witness_DeliveredFramesReadBackInOrder :
    ringState.Inv ∧ RingConfigured ringState ∧ allAccepted [frameTo everyone 60, frameTo everyone 249] ringState ∧
    (([frameTo everyone 60, frameTo everyone 249].map fun f => pagesRequired f.length).sum ≤
      ringState.pageStop.toNat - ringState.pageStart.toNat - 1) :=
  ⟨ringState_inv, ringState_configured, ⟨by decide, by decide, trivial⟩, by decide⟩

theorem witness_RingIsNeverFull :
    freePages { ringState with boundPtr := 0x48 } ≤ (pagesRequired (frameTo everyone 60).length : Int) ∧
    RingConfigured ringState ∧ acceptsFrame ringState (frameTo everyone 60) = true :=
  ⟨by decide, ringState_configured, by decide⟩

theorem witness_BufferReadsByRegion :
    (¬((0 : Int) ≤ 0x4000 ∧ (0x4000 : Int) < 32) ∧ (State.reset.cfg.memStart : Int) ≤ 0x4000 ∧
      (0x7FFF : Int) < (State.reset.cfg.memStart : Int) + 16384) ∧
    (¬((0 : Int) ≤ 32 ∧ (32 : Int) < 32) ∧
      ¬((State.reset.cfg.memStart : Int) ≤ 32 ∧ (32 : Int) < (State.reset.cfg.memStart : Int) + 16384)) ∧
    ¬((State.reset.cfg.memStart : Int) ≤ 0x8000 ∧ (0x8000 : Int) < (State.reset.cfg.memStart : Int) + 16384) := by decide

theorem witness_BufferWriteIsReadBack : Memory.wf transmitState.mem ∧ ∃ t, exec (.wrCr 0x26) transmitState = .next t :=
  ⟨by decide, _, rfl⟩

theorem witness_EveryStepKeepsTheInvariant :
    ∃ s t : State, s.Inv ∧ step s = .next t ∧ t.currPage ≠ s.currPage :=
  ⟨{ ringState with inputs := [.frame (frameTo everyone 60)] }, _, { ringState_inv with }, rfl, by decide⟩

theorem witness_AssertionsAreLoggedAndNeverWithdrawn :
    (∃ t, exec (.wrCr 0x26) transmitState = .next t ∧ t.asserts = [9]) ∧
    (∃ t, exec .rdData10 ringState = .next t ∧ isDataPort .rdData10 = true) :=
  ⟨⟨_, rfl, by decide⟩, ⟨_, rfl, by decide⟩⟩

theorem witness_InterruptLevelFollowsAssertions :
    (∃ t, exec (.wrCr 0x26) transmitState = .next t ∧ t.irqLevel = true ∧ transmitState.asserts.length < t.asserts.length) ∧
    (∃ t, exec (.wrP0Isr 0xFF) { ringState with irqLevel := true } = .next t ∧ t.irqLevel = false) :=
  ⟨⟨_, rfl, by decide⟩, ⟨_, rfl, by decide⟩⟩

theorem witness_IsrBitsFallOnlyByAcknowledgeOrReset :
    (∃ t, exec (.wrP0Imr 0xFF) ringState = .next t) ∧ (∃ t, exec (.wrP0Isr 0x01) ringState = .next t) ∧
    (∃ t, exec .rdReset ringState = .next t) ∧ ringState.Inv :=
  ⟨⟨_, rfl⟩, ⟨_, rfl⟩, ⟨_, rfl⟩, ringState_inv⟩

theorem witness_PageChangesOnlyByCommandWrite :
    (∃ t, exec (.wrCr 0x62) ringState = .next t ∧ t.cr.pgsel ≠ ringState.cr.pgsel) ∧
    (∃ t, exec .rdReset { ringState with cr := Cr.mk 1 4 false true false } = .next t ∧ t.cr.pgsel ≠ 1#2) ∧
    16 ≤ (16#5).toNat ∧ 16 ≤ (31#5).toNat :=
  ⟨⟨_, rfl, by decide⟩, ⟨_, rfl, by decide⟩, by decide, by decide⟩

theorem witness_RegisterReadsHaveNoSideEffect :
    Instr.rdP0Isr.dataByte = none ∧ isDataPort .rdP0Isr = false ∧ Instr.rdP0Isr ≠ .rdReset ∧ .rdData1e ∈ dataReads := by decide

theorem witness_UnusedFieldsNeverMatter :
    ringState.Inv ∧ withoutUnused ringState = withoutUnused { ringState with localDma := 0x1234, dcr := Dcr.ofByte 0x7E } ∧
    (Instr.wrP0Isr 1).dataByte.isSome = true ∧ isDataPort .rdData1e = true ∧
    ((0x22 : Byte) &&& 0xC7#8 = (0x02 : Byte) &&& 0xC7#8 ∧ (0x22 : Byte).extractLsb' 3 3 ≠ 1#3 ∧
      (0x22 : Byte).extractLsb' 3 3 ≠ 3#3 ∧ (0x02 : Byte).extractLsb' 3 3 ≠ 1#3 ∧ (0x02 : Byte).extractLsb' 3 3 ≠ 3#3) :=
  ⟨ringState_inv, rfl, rfl, by decide, by decide⟩

theorem witness_WideAccessesSplitLowestPortFirst :
    (0x1E#5).toNat < 0x1F ∧ (0#5).toNat < 0x1F ∧ State.reset.cr.pgsel = 0#2 ∧
    (0x10 ≤ (0x10#5).toNat ∧ (0x1E#5).toNat ≤ 0x1E) ∧ (0x3B#6).getLsbD 2 = false := by decide

theorem witness_RingWithoutPagesRefusesFrames :
    ((0x46#8).toNat ≤ ringState.pageStart.toNat ∧ ringState.boundPtr.toNat ≤ ringState.currPage.toNat) ∧
    noRingState.currPage.toNat < noRingState.boundPtr.toNat := by
  decide

end Sys2Proof.Tests
end

/-! ## What one step does: bus cycles and the other agents (O7, O8) -/

namespace Sys2Proof.Machine

/-! ### The bytes of a bus cycle always decode -/

@[simp] theorem descriptorPage_descriptor (d : Bool) (pp : BitVec 2) (off : BitVec 5) :
    descriptorPage (descriptor d pp off) = pp := by
  revert d pp off; decide

@[simp] theorem descriptorOffset_descriptor (d : Bool) (pp : BitVec 2) (off : BitVec 5) :
    descriptorOffset (descriptor d pp off) = off := by
  revert d pp off; decide

theorem ignoresPage_iff (off : BitVec 5) : ignoresPage off = true ↔ off.toNat = 0 ∨ 16 ≤ off.toNat := by
  revert off; decide

/-- Every offset that ignores the page is a row of the common write map (R92, R94, R95). -/
theorem decodeCommonWrite_row {n : Nat} (h : n = 0 ∨ 16 ≤ n) (hn : n < 32) (v : Byte) :
    ∃ i, decodeCommonWrite n v = some i ∧ i.dataByte = some v := by
  obtain rfl | hlo := h
  · exact ⟨_, rfl, rfl⟩
  · interval_cases n <;> exact ⟨_, rfl, rfl⟩

/-- Every other offset is a row of each page's write map (R97, R98, R100, R101). -/
theorem decodePagedWrite_row (pp : BitVec 2) {n : Nat} (hlo : 0 < n) (hhi : n < 16) (v : Byte) :
    ∃ i, decodePagedWrite pp n v = some i ∧ i.dataByte = some v := by
  unfold decodePagedWrite
  split <;> interval_cases n <;> exact ⟨_, rfl, rfl⟩

/-- What a write cycle runs: the access of its descriptor, a write of its data byte. -/
theorem writeCycle_decodes (pp : BitVec 2) (off : BitVec 5) (v : Byte) :
    ∃ i, decodeAccess (descriptor true pp off) v = some i ∧ i.dataByte = some v := by
  simp only [decodeAccess, descriptorIsWrite_descriptor, descriptorOffset_descriptor, descriptorPage_descriptor]
  cases hpage : ignoresPage off with
  | true => exact decodeCommonWrite_row ((ignoresPage_iff off).mp hpage) off.isLt v
  | false =>
    have hoff : ¬(off.toNat = 0 ∨ 16 ≤ off.toNat) := by simp [← ignoresPage_iff, hpage]
    exact decodePagedWrite_row pp (by omega) (by omega) v

theorem decode_readDescriptor (pp : BitVec 2) (off : BitVec 5) (rest : List Byte) :
    ∃ i, i.dataByte = none ∧ decode (descriptor false pp off :: rest) = .ok (i, rest) := by
  obtain ⟨i, hi, hn⟩ := readCycle_decodes pp off
  exact ⟨i, hn, by simp [decode, hi]⟩

theorem decode_writeDescriptor (pp : BitVec 2) (off : BitVec 5) (v : Byte) (rest : List Byte) :
    ∃ i, i.dataByte = some v ∧ decode (descriptor true pp off :: v :: rest) = .ok (i, rest) := by
  obtain ⟨i, hi, hv⟩ := writeCycle_decodes pp off v
  exact ⟨i, hv, by simp [decode, hi]⟩

theorem runCycle_of_decode {bytes rest : List Byte} {i : Instr} (h : decode bytes = .ok (i, rest)) (s : State) :
    runCycle bytes s = exec i s := by
  simp only [runCycle, h]

/-! ### Bus cycles by port (R90) -/

theorem busCycle_of_claimed {port : Nat} {s : State} (hlo : s.cfg.ioBase ≤ port) (hhi : port ≤ s.cfg.ioBase + 0x1F)
    (cycle : BitVec 5 → List Byte) :
    busCycle port cycle s = runCycle (cycle (BitVec.ofNat 5 (port - s.cfg.ioBase))) s := by
  simp only [busCycle, claimedOffset, if_pos (And.intro hlo hhi)]

/-- A claimed cycle runs the access its bytes decode to (R90, R91). -/
theorem busCycle_of_decode {port : Nat} {s : State} (hlo : s.cfg.ioBase ≤ port) (hhi : port ≤ s.cfg.ioBase + 0x1F)
    {cycle : BitVec 5 → List Byte} {i : Instr} {rest : List Byte}
    (hi : decode (cycle (BitVec.ofNat 5 (port - s.cfg.ioBase))) = .ok (i, rest)) :
    busCycle port cycle s = exec i s :=
  (busCycle_of_claimed hlo hhi cycle).trans (runCycle_of_decode hi s)

theorem busCycle_of_unclaimed {port : Nat} {s : State} (h : port < s.cfg.ioBase ∨ s.cfg.ioBase + 0x1F < port)
    (cycle : BitVec 5 → List Byte) : busCycle port cycle s = .next s := by
  have hn : ¬(s.cfg.ioBase ≤ port ∧ port ≤ s.cfg.ioBase + 0x1F) := by omega
  simp only [busCycle, claimedOffset, if_neg hn]

/-! ### One step by the head of the queue -/

theorem takeEvent_eq (rest : List Event) (s : State) :
    takeEvent rest s = { s with inputs := rest, readData := none } := rfl

theorem step_of_nil {s : State} (h : s.inputs = []) : step s = .next s := by
  simp only [step, h]

theorem step_of_cons {s : State} {e : Event} {rest : List Event} (h : s.inputs = e :: rest) :
    step s = perform e { s with inputs := rest, readData := none } := by
  simp only [step, h, takeEvent_eq]

theorem completeTransmit_of_pending {s : State} (h : s.txPending = true) :
    completeTransmit s = .next (txComplete s) := if_pos h

/-! ### The obligations -/

/-- Settles O7: the head of the queue is a bus cycle, the port decides whether the block claims it, and the bytes of a
claimed cycle decode whatever the page and the offset are. -/
theorem stepRunsTheDecodedAccess : Obligations.StepRunsTheDecodedAccess := by
  intro s port v rest u off
  refine ⟨fun hlo hhi => ⟨fun h => ?read, fun h => ?write⟩,
    fun hout => ⟨fun h => ?unclaimedRead, fun h => ?unclaimedWrite⟩⟩
  case read =>
    obtain ⟨i, -, hi⟩ := decode_readDescriptor s.cr.pgsel off []
    exact ⟨i, hi, rfl, (step_of_cons h).trans (busCycle_of_decode (s := u) (cycle := readCycle u) hlo hhi hi)⟩
  case write =>
    obtain ⟨i, -, hi⟩ := decode_writeDescriptor s.cr.pgsel off v []
    exact ⟨i, hi, rfl, (step_of_cons h).trans (busCycle_of_decode (s := u) (cycle := (writeCycle u · v)) hlo hhi hi)⟩
  case unclaimedRead => exact (step_of_cons h).trans (busCycle_of_unclaimed (s := u) hout _)
  case unclaimedWrite => exact (step_of_cons h).trans (busCycle_of_unclaimed (s := u) hout _)

/-- Settles O8: each event performs its agent's procedure on the state with that event taken, and no event is no step. That an
init is one reset with line, address and an empty hash table bound is `initBlock_eq`. -/
theorem stepPerformsTheOtherAgents : Obligations.StepPerformsTheOtherAgents := by
  intro s rest u
  refine ⟨fun bytes h => ?frame, fun h hpending => ?txdone, fun mac irq h => ?init, step_of_nil⟩
  case frame => exact step_of_cons h
  case txdone => exact (step_of_cons h).trans (completeTransmit_of_pending (s := u) hpending)
  case init => exact (step_of_cons h).trans (congrArg Host.Outcome.next (initBlock_eq u mac irq))

end Sys2Proof.Machine

/-! ## The state: invariant, reset and init, page select, ISR, unused fields (O36 to O38, O48, O49, O52 to O54, O56) -/

namespace Sys2Proof.Machine

/-! ### The bits of a register byte -/

/-- Bit `i` of `byteOfBits` is its argument `i`, in the form `simp` writes a bit. -/
@[simp] theorem getElem_byteOfBits (b0 b1 b2 b3 b4 b5 b6 b7 : Bool) :
    (byteOfBits b0 b1 b2 b3 b4 b5 b6 b7)[0] = b0 ∧ (byteOfBits b0 b1 b2 b3 b4 b5 b6 b7)[1] = b1 ∧
    (byteOfBits b0 b1 b2 b3 b4 b5 b6 b7)[2] = b2 ∧ (byteOfBits b0 b1 b2 b3 b4 b5 b6 b7)[3] = b3 ∧
    (byteOfBits b0 b1 b2 b3 b4 b5 b6 b7)[4] = b4 ∧ (byteOfBits b0 b1 b2 b3 b4 b5 b6 b7)[5] = b5 ∧
    (byteOfBits b0 b1 b2 b3 b4 b5 b6 b7)[6] = b6 ∧ (byteOfBits b0 b1 b2 b3 b4 b5 b6 b7)[7] = b7 := by
  simpa using getLsbD_byteOfBits b0 b1 b2 b3 b4 b5 b6 b7

theorem byteOfBits_and (a0 a1 a2 a3 a4 a5 a6 a7 b0 b1 b2 b3 b4 b5 b6 b7 : Bool) :
    byteOfBits a0 a1 a2 a3 a4 a5 a6 a7 &&& byteOfBits b0 b1 b2 b3 b4 b5 b6 b7 =
      byteOfBits (a0 && b0) (a1 && b1) (a2 && b2) (a3 && b3) (a4 && b4) (a5 && b5) (a6 && b6) (a7 && b7) := by
  ext i hi
  interval_cases i <;> simp

theorem byteOfBits_not (b0 b1 b2 b3 b4 b5 b6 b7 : Bool) :
    ~~~byteOfBits b0 b1 b2 b3 b4 b5 b6 b7 = byteOfBits (!b0) (!b1) (!b2) (!b3) (!b4) (!b5) (!b6) (!b7) := by
  ext i hi
  interval_cases i <;> simp

/-- An ISR write clears the bits that are 1 in its data byte (R134). -/
theorem Isr.ofByte_toByte_clear (r : Isr) (v : Byte) :
    Isr.ofByte (r.toByte &&& ~~~v) =
      { pktRx := r.pktRx && !v.getLsbD 0, pktTx := r.pktTx && !v.getLsbD 1
        rxErr := r.rxErr && !v.getLsbD 2, txErr := r.txErr && !v.getLsbD 3
        overwrite := r.overwrite && !v.getLsbD 4, cntOflow := r.cntOflow && !v.getLsbD 5
        rdmaDone := r.rdmaDone && !v.getLsbD 6, reset := r.reset && !v.getLsbD 7 } := by
  simp [Isr.ofByte, Isr.toByte]

/-! ### An event's step is one access, or the step of another agent -/

theorem runCycle_eq_next {bytes : List Byte} {s t : State} (h : runCycle bytes s = .next t) :
    ∃ i, exec i s = .next t := by
  unfold runCycle at h
  split at h
  · exact ⟨_, h⟩
  · cases h

/-- A bus cycle is not the block's, or runs one access (R90). -/
theorem busCycle_eq_next {port : Nat} {cycle : BitVec 5 → List Byte} {s t : State}
    (h : busCycle port cycle s = .next t) : t = s ∨ ∃ i, exec i s = .next t := by
  unfold busCycle at h
  split at h
  · exact .inr (runCycle_eq_next h)
  · cases h
    exact .inl rfl

theorem completeTransmit_eq_next {s t : State} (h : completeTransmit s = .next t) : t = txComplete s := by
  unfold completeTransmit at h
  split at h <;> cases h
  rfl

/-! ### A CR write, operation by operation -/

/-- What holds once the fields of a CR write are stored, and is kept by each operation the write may go on to, holds
when it is done (R112). -/
theorem command_induction {P : State → Prop} (hsend : ∀ s, P s → P (sendPacketCommand s))
    (hext : ∀ s, P s → P (externalTransmit s)) (hrx : ∀ s bytes, P s → P (receive bytes s))
    (htx : ∀ s, P s → P (raisePktTx s)) (hprobe : ∀ s, P s → P (irqProbe s)) {v : Byte} {s u : State}
    (h : transmitIfAsked v (sendPacketCommand s) = .next u) (hs : P s) : P (irqProbe u) := by
  refine hprobe u ?_
  obtain ⟨rfl, -⟩ | ⟨-, -, -, rfl⟩ | ⟨-, -, rfl⟩ := transmitIfAsked_cases h
  · exact hsend s hs
  · exact hext _ (hsend s hs)
  · exact htx _ (hrx _ _ (hsend s hs))

/-! ### Each operation keeps the invariant -/

section
variable {s : State} (h : s.Inv)
include h

theorem State.Inv.storeCommand (v : Byte) : (storeCommand (coerceCommand v) s).Inv := by
  rw [storeCommand_eq]
  exact { h with command := coerceCommand_rdmaCmd v }

theorem State.Inv.sendPacketCommand : (sendPacketCommand s).Inv := by
  rw [sendPacketCommand_eq]
  exact { h with }

theorem State.Inv.irqProbe : (irqProbe s).Inv := by
  rw [irqProbe_eq]
  exact { h with }

theorem State.Inv.raisePktTx : (raisePktTx s).Inv := by
  rw [raisePktTx_eq]
  exact { h with }

/-- A completion sets `tx_ok` and drops `tx_packet` and `tx_pending` together (R256). -/
theorem State.Inv.txComplete : (txComplete s).Inv := by
  rw [txComplete_eq]
  exact { h with
    transmitting := rfl
    synchronous := fun _ => rfl
    tsrUnset := by rw [h.tsrUnset] }

theorem State.Inv.externalTransmit : (externalTransmit s).Inv := by
  cases hd : s.cfg.txDeferred with
  | false =>
    rw [externalTransmit_eq_sync s hd]
    exact { h with
      transmitting := rfl
      synchronous := fun _ => rfl
      tsrUnset := by rw [h.tsrUnset] }
  | true =>
    rw [externalTransmit_eq_deferred s hd]
    exact { h with
      transmitting := rfl
      synchronous := fun hn => absurd (hd.symm.trans hn) (by decide) }

/-- An accepted frame sets `rx_ok` and `rx_mbit` of RSR alone, and its ring copy stays canonical (R235, R238). -/
theorem State.Inv.receive (bytes : List Byte) : (receive bytes s).Inv := by
  obtain ⟨-, hr⟩ | ⟨-, hr⟩ := receive_cases s bytes
  · rwa [hr]
  · rw [hr, storeFrame_eq]
    exact { h with
      memory := storedMemory_wf s bytes h.memory
      rsrUnset := by rw [h.rsrUnset] }

theorem State.Inv.dmaAdvance (n : Nat) : (dmaAdvance n s).Inv := by
  rw [dmaAdvance_eq]
  exact { h with }

theorem State.Inv.chipWrite8 (a : Int) (v : Byte) : (chipWrite8 s a v).Inv :=
  { h with memory := memoryWrite8_wf h.memory a v }

theorem State.Inv.setReadData (b : Option Byte) : (s.setReadData b).Inv := { h with }

/-- Write-1-to-clear sets no bit that was 0 (R134). -/
theorem State.Inv.acknowledge (v : Byte) : (lowerIrq (clearIsr v s)).Inv := by
  rw [lowerIrq_eq, clearIsr_eq, Isr.ofByte_toByte_clear]
  obtain ⟨hrx, htx, how, hcnt⟩ := h.isrUnset
  exact { h with isrUnset := by simp [hrx, htx, how, hcnt] }

end

/-- A block whose parameters are legal meets the invariant after reset, whatever it was before (R47, R49). -/
theorem resetBlock_inv {s : State} (hp : s.cfg.wf = true) : (resetBlock s).Inv where
  memory := Memory.wf_nil
  params := hp
  command := show 4#3 ≠ 0#3 by decide
  transmitting := rfl
  synchronous _ := rfl
  isrUnset := ⟨rfl, rfl, rfl, rfl⟩
  tsrUnset := rfl
  rsrUnset := rfl
  countersZero := ⟨rfl, rfl, rfl, rfl, rfl⟩
  pageThreeZero := rfl
  prom := rfl

theorem initBlock_inv {s : State} (hp : s.cfg.wf = true) (mac : Mac) (irq : Nat) : (initBlock mac irq s).Inv :=
  { resetBlock_inv (s := { construct s with irqLine := irq, physaddr := mac }) hp with }

/-- Every access that answers a next state keeps the invariant. -/
theorem exec_keeps_inv {i : Instr} {s t : State} (h : exec i s = .next t) (hs : s.Inv) : t.Inv := by
  cases exec_effect h with
  | ignored => exact hs
  | command v u hu =>
    exact command_induction (fun _ => .sendPacketCommand) (fun _ => .externalTransmit) (fun _ b h => h.receive b)
      (fun _ => .raisePktTx) (fun _ => .irqProbe) hu (hs.storeCommand v)
  | isr v => exact hs.acknowledge v
  | dataRead => exact (hs.dmaAdvance _).setReadData _
  | dataWrite => exact (hs.chipWrite8 _ _).dmaAdvance _
  | reset => exact { resetBlock_inv hs.params with }
  | returned | pageStart | pageStop | boundPtr | txPageStart | txBytesLow | txBytesHigh | remoteBytesLow
  | remoteBytesHigh | rcr | tcr | dcr | imr | currPage | localDmaLow | localDmaHigh | rempktPtr | localpktPtr
  | addressCntHigh | addressCntLow | remoteStartLow | remoteStartHigh | mchash => exact { hs with }

theorem busCycle_keeps_inv {port : Nat} {cycle : BitVec 5 → List Byte} {s t : State}
    (h : busCycle port cycle s = .next t) (hs : s.Inv) : t.Inv := by
  obtain rfl | ⟨i, hi⟩ := busCycle_eq_next h
  · exact hs
  · exact exec_keeps_inv hi hs

/-- Whatever an agent does, if it answers a next state, keeps the invariant. -/
theorem perform_keeps_inv {e : Event} {s t : State} (h : perform e s = .next t) (hs : s.Inv) : t.Inv := by
  cases e with
  | read port => exact busCycle_keeps_inv h hs
  | write port v => exact busCycle_keeps_inv h hs
  | frame bytes =>
    cases h
    exact hs.receive bytes
  | txdone =>
    rw [completeTransmit_eq_next h]
    exact hs.txComplete
  | init mac irq =>
    cases h
    exact initBlock_inv hs.params mac irq

/-- Settles O49: with no event queued the state stays, and taking the next event touches no field of the invariant, so what the
event's agent does decides. -/
theorem everyStepKeepsTheInvariant : Obligations.EveryStepKeepsTheInvariant := by
  intro s t hs h
  cases hin : s.inputs with
  | nil =>
    rw [step_of_nil hin] at h
    cases h
    exact hs
  | cons e rest =>
    rw [step_of_cons hin] at h
    exact perform_keeps_inv h { hs with }

/-- Settles O48: `State.reset` is what an init leaves of a block with legal parameters. -/
theorem resetStateMeetsTheInvariant : Obligations.ResetStateMeetsTheInvariant :=
  initBlock_inv (s := State.reset) rfl _ _

/-! ### Reset and init -/

/-- The PROM window holds each byte of the station address twice, then `SIGNATURE_BYTE` (R39). -/
theorem promOf_bytes (p : Mac) :
    (∀ k : Fin 6, (promOf p)[2 * k.val] = p[k.val] ∧ (promOf p)[2 * k.val + 1] = p[k.val]) ∧
    (∀ j : Fin 20, (promOf p)[12 + j.val] = 0x57#8) := by
  constructor
  · intro k
    fin_cases k <;> exact ⟨rfl, rfl⟩
  · intro j
    fin_cases j <;> rfl

/-- With nothing listed in memory every backed byte outside the PROM window reads 0 (R40, R72). -/
theorem chipRead8_of_mem_nil {s : State} (hm : s.mem = []) {a : Int} (hprom : 32 ≤ a) (hlo : (s.cfg.memStart : Int) ≤ a)
    (hhi : a < (s.cfg.memStart : Int) + 16384) : chipRead8 s a = 0#8 := by
  have hwin : ¬(0 ≤ a ∧ a < 32) := by omega
  have hb : backed s.cfg a = true := backed_iff.2 ⟨hlo, hhi⟩
  simp [chipRead8, hwin, hb, hm]

/-- The bytes of the three registers that reset leaves nonzero (R47). -/
theorem resetRegisters_toByte :
    Cr.toByte { rdmaCmd := 4, stop := true } = 0x21#8 ∧ Isr.toByte { reset := true } = 0x80#8 ∧
      Dcr.toByte { longaddr := true } = 0x04#8 := by
  decide

/-- The descriptors of offset 0x1F, in every page, read the reset port (R95). -/
theorem decodeAccess_resetPort {k : Byte} (h : k &&& 0x9F = 0x1F) (v : Byte) : decodeAccess k v = some .rdReset := by
  obtain ⟨hd, hoff⟩ : descriptorIsWrite k = false ∧ descriptorOffset k = 0x1F := by
    revert k
    decide
  simp [decodeAccess, hd, hoff, ignoresPage, decodeCommonRead]

/-- Settles O36: every descriptor of the port decodes to RD_RESET, and `resetBlock_eq` says everything a reset leaves. -/
theorem resetPortReadResetsTheBlock : Obligations.ResetPortReadResetsTheBlock := by
  refine ⟨fun k v h => decodeAccess_resetPort h v, fun s => ⟨_, rfl, rfl, rfl, ?_, promOf_bytes s.physaddr⟩⟩
  intro a hprom hlo hhi
  exact chipRead8_of_mem_nil rfl hprom hlo hhi

/-- Settles O37: an init is one reset with line, address and an empty hash table bound (`initBlock_eq`), and no field of the old
state is in it but those it keeps. -/
theorem initConstructsAndResets : Obligations.InitConstructsAndResets := by
  constructor
  · intro s rest mac irq hin
    refine ⟨_, step_of_cons hin, rfl, resetRegisters_toByte, ?_, promOf_bytes mac⟩
    intro a hprom hlo hhi
    exact chipRead8_of_mem_nil rfl hprom hlo hhi
  · intro s u mac irq hcfg hasserts hsent hinputs hread hdraws
    simp only [initBlock_eq, resetBlock_eq, hcfg, hasserts, hsent, hinputs, hread, hdraws]

/-- Settles O38: every field of `State.reset` is written out, and `initBlock_reset` says an init leaves it. -/
theorem resetStateHoldsTheGivenValues : Obligations.ResetStateHoldsTheGivenValues := by
  refine ⟨by decide, by decide, by decide, by decide, by decide, by decide, by decide, by decide, ?_⟩
  refine ⟨rfl, rfl, rfl, rfl, rfl, rfl, rfl, rfl, rfl, rfl, rfl, rfl, rfl, rfl, rfl, rfl, rfl, rfl, rfl, ?_⟩
  exact ⟨rfl, rfl, rfl, rfl, rfl, initBlock_reset⟩

/-! ### Register layouts -/

theorem Cr.getLsbD_toByte (r : Cr) :
    [0, 1, 2, 3, 4, 5, 6, 7].map r.toByte.getLsbD =
      [r.stop, r.start, r.txPacket, r.rdmaCmd.getLsbD 0, r.rdmaCmd.getLsbD 1, r.rdmaCmd.getLsbD 2,
        r.pgsel.getLsbD 0, r.pgsel.getLsbD 1] := by
  obtain ⟨pgsel, rdmaCmd, txPacket, start, stop⟩ := r
  revert pgsel rdmaCmd txPacket start stop
  decide

/-- Settles O53: CR is the concatenation of its fields, and every other register is a `byteOfBits`. -/
theorem statusRegisterBitsLieAsLaidOut : Obligations.StatusRegisterBitsLieAsLaidOut :=
  ⟨Cr.getLsbD_toByte, fun _ => getLsbD_byteOfBits .., fun _ => getLsbD_byteOfBits .., fun _ => getLsbD_byteOfBits ..,
    fun _ => getLsbD_byteOfBits .., fun _ => getLsbD_byteOfBits .., fun _ => getLsbD_byteOfBits ..⟩

/-! ### The page select (R51) -/

@[simp] theorem dmaAdvance_cr (n : Nat) (s : State) : (dmaAdvance n s).cr = s.cr := by rw [dmaAdvance_eq]

@[simp] theorem receive_cr (bytes : List Byte) (s : State) : (receive bytes s).cr = s.cr := by rw [receive_eq]

@[simp] theorem raisePktTx_cr (s : State) : (raisePktTx s).cr = s.cr := by rw [raisePktTx_eq]

@[simp] theorem loopbackTransmit_cr (s : State) : (loopbackTransmit s).cr = s.cr := by rw [loopbackTransmit_eq]

@[simp] theorem irqProbe_cr (s : State) : (irqProbe s).cr = s.cr := by rw [irqProbe_eq]

@[simp] theorem sendPacketCommand_cr (s : State) : (sendPacketCommand s).cr = s.cr := by rw [sendPacketCommand_eq]

@[simp] theorem txComplete_cr (s : State) : (txComplete s).cr = { s.cr with txPacket := false } := by rw [txComplete_eq]

/-- An external transmission writes `tx_packet` alone of CR (R254). -/
@[simp] theorem externalTransmit_cr (s : State) :
    (externalTransmit s).cr = { s.cr with txPacket := s.cfg.txDeferred } := by
  cases hd : s.cfg.txDeferred with
  | false => rw [externalTransmit_eq_sync s hd]
  | true => rw [externalTransmit_eq_deferred s hd]

/-- A CR write leaves the page of the byte written (R112). -/
theorem wrCr_pgsel {v : Byte} {s t : State} (h : exec (.wrCr v) s = .next t) : t.cr.pgsel = v.extractLsb' 6 2 := by
  obtain ⟨u, hu, rfl⟩ := andThen_eq_next.1 h
  exact command_induction (P := fun t => t.cr.pgsel = v.extractLsb' 6 2) (by simp) (by simp) (by simp) (by simp) (by simp)
    hu (by rw [storeCommand_coerceCommand])

theorem exec_pgsel {i : Instr} {s t : State} (h : exec i s = .next t) :
    t.cr.pgsel = s.cr.pgsel ∨ (∃ v, i = .wrCr v) ∨ (i = .rdReset ∧ t.cr.pgsel = 0#2) := by
  cases exec_effect h with
  | command v => exact .inr (.inl ⟨v, rfl⟩)
  | reset => exact .inr (.inr ⟨rfl, rfl⟩)
  | isr => exact .inl (by rw [lowerIrq_eq, clearIsr_eq])
  | dataRead | dataWrite => exact .inl (by simp [chipWrite8])
  | returned | ignored | pageStart | pageStop | boundPtr | txPageStart | txBytesLow | txBytesHigh | remoteBytesLow
  | remoteBytesHigh | rcr | tcr | dcr | imr | currPage | localDmaLow | localDmaHigh | rempktPtr | localpktPtr
  | addressCntHigh | addressCntLow | remoteStartLow | remoteStartHigh | mchash => exact .inl rfl

/-- The page of a descriptor selects nothing at offset 0 and from 0x10 on (R92, R94, R95). -/
theorem decodeAccess_page_irrelevant {off : BitVec 5} (h : off = 0#5 ∨ 16 ≤ off.toNat) (d : Bool) (pp qq : BitVec 2)
    (v : Byte) : decodeAccess (descriptor d pp off) v = decodeAccess (descriptor d qq off) v := by
  have hi : ignoresPage off = true := (ignoresPage_iff off).2 (h.imp_left fun h => by rw [h]; rfl)
  cases d <;> simp [decodeAccess, hi]

/-- Settles O54: of the accesses' effects only a CR write and a reset touch `CR.pgsel`, and the engines keep CR but for
`tx_packet`. -/
theorem pageChangesOnlyByCommandWrite : Obligations.PageChangesOnlyByCommandWrite := by
  refine ⟨fun i s t h hne => ?_, fun v s t => wrCr_pgsel, fun s => ⟨fun bytes => ?_, ?_⟩, fun pp qq off v h =>
    ⟨decodeAccess_page_irrelevant h false pp qq v, decodeAccess_page_irrelevant h true pp qq v⟩⟩
  · obtain hsame | ⟨v, rfl⟩ | hreset := exec_pgsel h
    · exact absurd hsame hne
    · exact .inl ⟨v, rfl, wrCr_pgsel h⟩
    · exact .inr hreset
  · simp only [receive_cr]
  · simp only [txComplete_cr]

/-! ### The status bits of ISR (R22) -/

/-- `q` holds every bit of `r`, and the error bits just as in `r`. -/
structure Isr.Keeps (r q : Isr) : Prop where
  pktRx : r.pktRx = true → q.pktRx = true
  pktTx : r.pktTx = true → q.pktTx = true
  rdmaDone : r.rdmaDone = true → q.rdmaDone = true
  reset : r.reset = true → q.reset = true
  rxErr : q.rxErr = r.rxErr
  txErr : q.txErr = r.txErr
  overwrite : q.overwrite = r.overwrite
  cntOflow : q.cntOflow = r.cntOflow

theorem Isr.Keeps.refl (r : Isr) : Isr.Keeps r r := ⟨id, id, id, id, rfl, rfl, rfl, rfl⟩

/-- The four bits that events raise may be raised in any combination. -/
theorem Isr.Keeps.raise {r q : Isr} (h : Isr.Keeps r q) (rx tx done rst : Bool) :
    Isr.Keeps r { q with
      pktRx := q.pktRx || rx, pktTx := q.pktTx || tx, rdmaDone := q.rdmaDone || done, reset := q.reset || rst } :=
  { h with
    pktRx := fun hr => by simp [h.pktRx hr]
    pktTx := fun hr => by simp [h.pktTx hr]
    rdmaDone := fun hr => by simp [h.rdmaDone hr]
    reset := fun hr => by simp [h.reset hr] }

/-- Under the mask of bits 2 to 5 stand the four error bits (R22). -/
theorem Isr.toByte_errorMask (r : Isr) :
    r.toByte &&& 0x3C#8 = byteOfBits false false r.rxErr r.txErr r.overwrite r.cntOflow false false := by
  have hmask : 0x3C#8 = byteOfBits false false true true true true false false := by decide
  rw [hmask, Isr.toByte, byteOfBits_and]
  simp

/-- The same in the bits of the register byte. -/
theorem Isr.Keeps.toByte {r q : Isr} (h : Isr.Keeps r q) :
    r.toByte &&& ~~~q.toByte = 0#8 ∧ q.toByte &&& 0x3C#8 = r.toByte &&& 0x3C#8 := by
  obtain ⟨hrx, htx, hdone, hrst, hre, hte, how, hco⟩ := h
  constructor
  · have hzero : 0#8 = byteOfBits false false false false false false false false := by decide
    rw [hzero, Isr.toByte, Isr.toByte, byteOfBits_not, byteOfBits_and, hre, hte, how, hco]
    congr 1 <;> simp_all
  · rw [Isr.toByte_errorMask, Isr.toByte_errorMask, hre, hte, how, hco]

/-! #### Each operation keeps them -/

section
variable {r : Isr} {s : State} (h : Isr.Keeps r s.isr)
include h

theorem Isr.Keeps.storeCommand (v : Byte) : Isr.Keeps r (storeCommand v s).isr := by
  rw [storeCommand_eq]
  simpa using h.raise false false false (v.getLsbD 0)

theorem Isr.Keeps.sendPacketCommand : Isr.Keeps r (sendPacketCommand s).isr := by rwa [sendPacketCommand_eq]

theorem Isr.Keeps.irqProbe : Isr.Keeps r (irqProbe s).isr := by
  rw [irqProbe_eq]
  simpa using h.raise false false (probeDue s) false

theorem Isr.Keeps.dmaAdvance (n : Nat) : Isr.Keeps r (dmaAdvance n s).isr := by
  rw [dmaAdvance_eq]
  simpa using h.raise false false (countedDown n s == 0#16) false

theorem Isr.Keeps.receive (bytes : List Byte) : Isr.Keeps r (receive bytes s).isr := by
  rw [receive_eq]
  simpa using h.raise (acceptsFrame s bytes) false false false

theorem Isr.Keeps.raisePktTx : Isr.Keeps r (raisePktTx s).isr := by
  rw [raisePktTx_eq]
  simpa using h.raise false true false false

theorem Isr.Keeps.txComplete : Isr.Keeps r (txComplete s).isr := by
  rw [txComplete_eq]
  simpa using h.raise false true false false

/-- An external transmission raises `pkt_tx`, or nothing where the completion is deferred (R254). -/
theorem Isr.Keeps.externalTransmit : Isr.Keeps r (externalTransmit s).isr := by
  cases hd : s.cfg.txDeferred with
  | false =>
    rw [externalTransmit_eq_sync s hd]
    simpa using h.raise false true false false
  | true => rwa [externalTransmit_eq_deferred s hd]

end

/-- Of the accesses, only an ISR write and a reset can clear an ISR bit. -/
theorem exec_keeps_isr {i : Instr} {s t : State} (h : exec i s = .next t) (hisr : ∀ v, i ≠ .wrP0Isr v)
    (hreset : i ≠ .rdReset) : Isr.Keeps s.isr t.isr := by
  have hs := Isr.Keeps.refl s.isr
  cases exec_effect h with
  | isr v => exact absurd rfl (hisr v)
  | reset => exact absurd rfl hreset
  | command v u hu =>
    exact command_induction (P := fun t => Isr.Keeps s.isr t.isr) (fun _ => .sendPacketCommand)
      (fun _ => .externalTransmit) (fun _ b h => h.receive b) (fun _ => .raisePktTx) (fun _ => .irqProbe) hu
      (hs.storeCommand _)
  | dataRead => exact hs.dmaAdvance _
  | dataWrite i v => exact Isr.Keeps.dmaAdvance (s := chipWrite8 s s.remoteDma.toNat v) hs _
  | returned | ignored | pageStart | pageStop | boundPtr | txPageStart | txBytesLow | txBytesHigh | remoteBytesLow
  | remoteBytesHigh | rcr | tcr | dcr | imr | currPage | localDmaLow | localDmaHigh | rempktPtr | localpktPtr
  | addressCntHigh | addressCntLow | remoteStartLow | remoteStartHigh | mchash => exact hs

/-- An ISR write leaves the bits of the old byte that its data byte does not name (R134). -/
theorem wrIsr_toByte {v : Byte} {s t : State} (h : exec (.wrP0Isr v) s = .next t) :
    t.isr.toByte = s.isr.toByte &&& ~~~v := by
  cases h
  rw [lowerIrq_eq, clearIsr_eq]
  exact Isr.toByte_ofByte _

theorem and_not_and_not_self (a v : Byte) : a &&& ~~~(a &&& ~~~v) &&& ~~~v = 0#8 := by
  ext i hi
  cases ha : a[i] <;> cases hv : v[i] <;> simp [ha, hv]

/-- Settles O52: every access but the two named, and both engines, keep each ISR bit that is 1 (`Isr.Keeps`), and an ISR write
leaves the old byte less the bits of its data byte. -/
theorem isrBitsFallOnlyByAcknowledgeOrReset : Obligations.IsrBitsFallOnlyByAcknowledgeOrReset := by
  refine ⟨fun i s t h hisr hreset => (exec_keeps_isr h hisr hreset).toByte, fun s bytes => ?engines,
    fun v s t h => ?acknowledge, fun r => getLsbD_byteOfBits .., fun s t h => ?reset, fun s hs => ?unset⟩
  case engines =>
    obtain ⟨hrx, hrxErr⟩ := ((Isr.Keeps.refl s.isr).receive bytes).toByte
    obtain ⟨htx, htxErr⟩ := (Isr.Keeps.refl s.isr).txComplete.toByte
    exact ⟨hrx, htx, hrxErr, htxErr⟩
  case acknowledge => rw [wrIsr_toByte h, and_not_and_not_self]
  case reset =>
    cases h
    obtain ⟨-, hbyte, -⟩ := resetRegisters_toByte
    exact hbyte
  case unset =>
    obtain ⟨hre, hte, how, hco⟩ := hs.isrUnset
    rw [Isr.toByte_errorMask, hre, hte, how, hco]
    decide

/-! ### Fields with no effect (R46) -/

/-- `f` takes what it does to the fields with an effect from those fields alone. -/
def IgnoresUnused (f : State → State) : Prop := ∀ s, withoutUnused (f s) = withoutUnused (f (withoutUnused s))

/-- Such an operation does the same to two states that differ only in the other fields. -/
theorem IgnoresUnused.congr {f : State → State} (hf : IgnoresUnused f) {s t : State}
    (h : withoutUnused s = withoutUnused t) : withoutUnused (f s) = withoutUnused (f t) := by
  rw [hf s, h, ← hf t]

/-- The outcome with the fields of R46 wiped from its state. -/
def wiped (o : Host.Outcome State Fault Refusal) : Host.Outcome State Fault Refusal := andThen o withoutUnused

theorem sameButUnused_iff {a b : Host.Outcome State Fault Refusal} : sameButUnused a b ↔ wiped a = wiped b := by
  cases a <;> cases b <;> simp [sameButUnused, wiped, andThen]

/-! #### The engines -/

theorem raiseRdmaDone_ignoresUnused : IgnoresUnused raiseRdmaDone := by
  intro s
  simp only [raiseRdmaDone_eq]
  rfl

theorem raisePktTx_ignoresUnused : IgnoresUnused raisePktTx := by
  intro s
  simp only [raisePktTx_eq]
  rfl

theorem txComplete_ignoresUnused : IgnoresUnused txComplete := by
  intro s
  simp only [txComplete_eq]
  rfl

theorem dmaAdvance_ignoresUnused (n : Nat) : IgnoresUnused (dmaAdvance n) := by
  intro s
  simp only [dmaAdvance_eq]
  rfl

/-- The ring copy reads parameters and ring pointers of its state (R235). -/
theorem ringWrite_withoutUnused (s : State) (m : Memory) (i : Nat) (bytes : List Byte) :
    ringWrite (withoutUnused s) m i bytes = ringWrite s m i bytes := by
  induction bytes generalizing m i with
  | nil => rfl
  | cons b rest ih => exact ih _ _

theorem storedMemory_withoutUnused (frame : List Byte) (s : State) :
    storedMemory frame (withoutUnused s) = storedMemory frame s := by
  simp only [storedMemory, ringWrite_withoutUnused]
  rfl

theorem acceptsFrame_withoutUnused (s : State) (frame : List Byte) :
    acceptsFrame (withoutUnused s) frame = acceptsFrame s frame := rfl

theorem receive_ignoresUnused (bytes : List Byte) : IgnoresUnused (receive bytes) := by
  intro s
  simp only [receive_eq, storedMemory_withoutUnused, acceptsFrame_withoutUnused]
  rfl

theorem txRegion_withoutUnused (s : State) : txRegion (withoutUnused s) = txRegion s := rfl

theorem loopbackTransmit_ignoresUnused : IgnoresUnused loopbackTransmit := by
  intro s
  have hrx := receive_ignoresUnused (txRegion s) s
  exact raisePktTx_ignoresUnused.congr hrx

theorem externalTransmit_ignoresUnused : IgnoresUnused externalTransmit := by
  intro s
  cases hd : s.cfg.txDeferred with
  | false =>
    rw [externalTransmit_eq_sync s hd, externalTransmit_eq_sync (withoutUnused s) hd]
    rfl
  | true =>
    rw [externalTransmit_eq_deferred s hd, externalTransmit_eq_deferred (withoutUnused s) hd]
    rfl

/-! #### The data port -/

theorem wiped_dataPortRead (s : State) : wiped (dataPortRead s) = wiped (dataPortRead (withoutUnused s)) := by
  have h := dmaAdvance_ignoresUnused (accessLength s) s
  have hread : IgnoresUnused (State.setReadData · (some (chipRead8 s s.remoteDma.toNat))) := fun _ => rfl
  exact congrArg Host.Outcome.next (hread.congr h)

theorem wiped_dataPortWrite (v : Byte) (s : State) :
    wiped (dataPortWrite v s) = wiped (dataPortWrite v (withoutUnused s)) := by
  have hcount : (withoutUnused s).remoteBytes = s.remoteBytes := rfl
  simp only [dataPortWrite, hcount]
  split
  · rfl
  · have hstore : withoutUnused (chipWrite8 s s.remoteDma.toNat v) =
        withoutUnused (chipWrite8 (withoutUnused s) s.remoteDma.toNat v) := rfl
    exact congrArg Host.Outcome.next ((dmaAdvance_ignoresUnused (accessLength s)).congr hstore)

/-! #### The ISR write -/

section
variable {s : State} (h : s.isr.rxErr = false ∧ s.isr.txErr = false ∧ s.isr.overwrite = false ∧ s.isr.cntOflow = false)
include h

/-- With the error bits of ISR unset, IMR bits 2 to 5 mask nothing (R272). -/
theorem maskedStatus_withoutUnused : maskedStatus (withoutUnused s) = maskedStatus s := by
  obtain ⟨hre, hte, how, hco⟩ := h
  simp only [maskedStatus, withoutUnused, Isr.toByte, Imr.toByte, byteOfBits_and, hre, hte, how, hco, Bool.false_and]

theorem acknowledge_withoutUnused (v : Byte) :
    withoutUnused (lowerIrq (clearIsr v s)) = withoutUnused (lowerIrq (clearIsr v (withoutUnused s))) := by
  have hmask : maskedStatus (clearIsr v (withoutUnused s)) = maskedStatus (clearIsr v s) := by
    refine maskedStatus_withoutUnused (s := clearIsr v s) ?_
    obtain ⟨hre, hte, how, hco⟩ := h
    simp [clearIsr_eq, Isr.ofByte_toByte_clear, hre, hte, how, hco]
  simp only [lowerIrq_eq, hmask]
  rfl

end

/-! #### The CR write -/

/-- A CR write consults the stored `rdma_cmd` by comparing it with 3 and with 1 alone (R112, R207, R208). -/
def SameCommand (s t : State) : Prop :=
  (s.cr.rdmaCmd = 3#3 ↔ t.cr.rdmaCmd = 3#3) ∧ (s.cr.rdmaCmd = 1#3 ↔ t.cr.rdmaCmd = 1#3)

theorem sendPacketCommand_congr {s t : State} (h : withoutUnused s = withoutUnused t)
    (hc : s.cr.rdmaCmd = 3#3 ↔ t.cr.rdmaCmd = 3#3) :
    withoutUnused (sendPacketCommand s) = withoutUnused (sendPacketCommand t) := by
  have hmode : s.cfg.sendpktMode = t.cfg.sendpktMode := congrArg (fun s => s.cfg.sendpktMode) h
  have hload : IgnoresUnused fun s =>
      (loadRemoteStart (pageWord s.boundPtr) s).setRemoteBytes (chipRead16 s (pageAddr s.boundPtr + 2)) := fun _ => rfl
  simp only [sendPacketCommand, hc, hmode]
  split
  · split
    · exact h
    · exact hload.congr h
  · exact h

theorem irqProbe_congr {s t : State} (h : withoutUnused s = withoutUnused t)
    (hc : s.cr.rdmaCmd = 1#3 ↔ t.cr.rdmaCmd = 1#3) : withoutUnused (irqProbe s) = withoutUnused (irqProbe t) := by
  have hstart : s.cr.start = t.cr.start := congrArg (fun s => s.cr.start) h
  have hcount : s.remoteBytes = t.remoteBytes := congrArg (fun s => s.remoteBytes) h
  have hcmd : (s.cr.rdmaCmd == 1#3) = (t.cr.rdmaCmd == 1#3) := by
    rw [Bool.eq_iff_iff, beq_iff_eq, beq_iff_eq, hc]
  have hdue : probeDue s = probeDue t := by rw [probeDue, probeDue, hcmd, hstart, hcount]
  simp only [irqProbe, hdue]
  split
  · exact raiseRdmaDone_ignoresUnused.congr h
  · exact h

/-- A transmit start answers the same to both, and does not touch `rdma_cmd` (R250 to R254, R258). -/
theorem transmitStart_congr {s t : State} (h : withoutUnused s = withoutUnused t) :
    (transmitStart s = .fault .txOverlap ∧ transmitStart t = .fault .txOverlap) ∨
    ∃ s' t', transmitStart s = .next s' ∧ transmitStart t = .next t' ∧ withoutUnused s' = withoutUnused t' ∧
      s'.cr.rdmaCmd = s.cr.rdmaCmd ∧ t'.cr.rdmaCmd = t.cr.rdmaCmd := by
  have hloop : s.tcr.loopCntl = t.tcr.loopCntl := congrArg (fun s => s.tcr.loopCntl) h
  have hpending : s.txPending = t.txPending := congrArg (fun s => s.txPending) h
  simp only [transmitStart, hloop, hpending]
  split
  · split
    · exact .inl ⟨rfl, rfl⟩
    · exact .inr ⟨_, _, rfl, rfl, externalTransmit_ignoresUnused.congr h, by simp, by simp⟩
  · split
    · exact .inr ⟨_, _, rfl, rfl, loopbackTransmit_ignoresUnused.congr h, by simp, by simp⟩
    · exact .inr ⟨_, _, rfl, rfl, h, rfl, rfl⟩

/-- What a CR write does once its fields are stored, over two states and two bytes that ask for the same. -/
theorem command_sameButUnused {v w : Byte} {s t : State} (h : withoutUnused s = withoutUnused t) (hc : SameCommand s t)
    (hb : v.getLsbD 2 = w.getLsbD 2) :
    sameButUnused (andThen (transmitIfAsked v (sendPacketCommand s)) irqProbe)
      (andThen (transmitIfAsked w (sendPacketCommand t)) irqProbe) := by
  obtain ⟨hc3, hc1⟩ := hc
  have h2 := sendPacketCommand_congr h hc3
  simp only [transmitIfAsked, hb]
  split
  · obtain ⟨hs, ht⟩ | ⟨s', t', hs, ht, h3, hcs, hct⟩ := transmitStart_congr h2
    · rw [hs, ht]
      rfl
    · rw [hs, ht]
      exact irqProbe_congr h3 (by simpa [hcs, hct] using hc1)
  · exact irqProbe_congr h2 (by simpa using hc1)

theorem wrCr_sameButUnused (v : Byte) {s t : State} (h : withoutUnused s = withoutUnused t) :
    sameButUnused (exec (.wrCr v) s) (exec (.wrCr v) t) := by
  have hstore : IgnoresUnused (storeCommand (coerceCommand v)) := by
    intro s
    simp only [storeCommand_eq]
    rfl
  refine command_sameButUnused (hstore.congr h) ?_ rfl
  simp [SameCommand, storeCommand_eq]

/-- The fields of a written CR byte but for `rdma_cmd` lie under the mask 0xC7 (R21). -/
theorem maskedCommand_fields (v : Byte) :
    (v &&& 0xC7#8).extractLsb' 6 2 = v.extractLsb' 6 2 ∧ (v &&& 0xC7#8).getLsbD 2 = v.getLsbD 2 ∧
      (v &&& 0xC7#8).getLsbD 1 = v.getLsbD 1 ∧ (v &&& 0xC7#8).getLsbD 0 = v.getLsbD 0 := by
  revert v
  decide

/-- A command that a CR write consults comes from the byte, not from the coercion of 0 to 4 (R112). -/
theorem coercedCommand_eq_iff {v : Byte} {c : BitVec 3} (hc : c = 1#3 ∨ c = 3#3) :
    (coerceCommand v).extractLsb' 3 3 = c ↔ v.extractLsb' 3 3 = c := by
  obtain ⟨-, hcmd, -⟩ := coerceCommand_fields v
  rw [hcmd]
  split
  · next h0 =>
    rw [h0]
    obtain rfl | rfl := hc <;> decide
  · rfl

theorem wrCr_sameButUnused_of_inertCommands {v w : Byte} (s : State) (hvw : v &&& 0xC7#8 = w &&& 0xC7#8)
    (hv1 : v.extractLsb' 3 3 ≠ 1#3) (hv3 : v.extractLsb' 3 3 ≠ 3#3) (hw1 : w.extractLsb' 3 3 ≠ 1#3)
    (hw3 : w.extractLsb' 3 3 ≠ 3#3) : sameButUnused (exec (.wrCr v) s) (exec (.wrCr w) s) := by
  obtain ⟨hpage, htx, hstart, hstop⟩ : v.extractLsb' 6 2 = w.extractLsb' 6 2 ∧ v.getLsbD 2 = w.getLsbD 2 ∧
      v.getLsbD 1 = w.getLsbD 1 ∧ v.getLsbD 0 = w.getLsbD 0 := by
    simpa only [← hvw, maskedCommand_fields] using maskedCommand_fields w
  refine command_sameButUnused ?_ ?_ htx
  · simp only [storeCommand_coerceCommand, hpage, hstart, hstop]
    rfl
  · simp only [SameCommand, storeCommand_eq, coercedCommand_eq_iff (.inl rfl), coercedCommand_eq_iff (.inr rfl),
      hv1, hv3, hw1, hw3, and_self]

/-! #### Every access -/

/-- The accesses that O56 speaks of: the writes, the data port and the read of the reset port. -/
abbrev Instr.acts (i : Instr) : Prop := i.dataByte.isSome = true ∨ isDataPort i = true ∨ i = .rdReset

/-- Of these, all but a CR write and an ISR write take what they do from the fields with an effect alone. -/
theorem wiped_exec {i : Instr} (hi : Instr.acts i) (hcr : ∀ v, i ≠ .wrCr v) (hisr : ∀ v, i ≠ .wrP0Isr v) (s : State) :
    wiped (exec i s) = wiped (exec i (withoutUnused s)) := by
  cases i with
  | wrCr v => exact absurd rfl (hcr v)
  | wrP0Isr v => exact absurd rfl (hisr v)
  | rdData10 | rdData11 | rdData12 | rdData13 | rdData14 | rdData15 | rdData16 | rdData17 | rdData18 | rdData19
  | rdData1a | rdData1b | rdData1c | rdData1d | rdData1e => exact wiped_dataPortRead s
  | wrData10 | wrData11 | wrData12 | wrData13 | wrData14 | wrData15 | wrData16 | wrData17 | wrData18 | wrData19
  | wrData1a | wrData1b | wrData1c | wrData1d | wrData1e => exact wiped_dataPortWrite _ s
  | rdReset => rfl
  | wrP0Pstart | wrP0Pstop | wrP0Bnry | wrP0Tpsr | wrP0Tbcr0 | wrP0Tbcr1 | wrP0Rsar0 | wrP0Rsar1 | wrP0Rbcr0
  | wrP0Rbcr1 | wrP0Rcr | wrP0Tcr | wrP0Dcr | wrP0Imr | wrP1Par0 | wrP1Par1 | wrP1Par2 | wrP1Par3 | wrP1Par4
  | wrP1Par5 | wrP1Curr | wrP1Mar0 | wrP1Mar1 | wrP1Mar2 | wrP1Mar3 | wrP1Mar4 | wrP1Mar5 | wrP1Mar6 | wrP1Mar7
  | wrP2Clda0 | wrP2Clda1 | wrP2Rnpp | wrP2Rsv4 | wrP2Lnpp | wrP2Acu | wrP2Acl | wrP2Rsv8 | wrP2Rsv9 | wrP2Rsva
  | wrP2Rsvb | wrP2Rsvc | wrP2Rsvd | wrP2Rsve | wrP2Rsvf | wrP31 | wrP32 | wrP33 | wrP34 | wrP35 | wrP36 | wrP37
  | wrP38 | wrP39 | wrP3A | wrP3B | wrP3C | wrP3D | wrP3E | wrP3F | wrReset => rfl
  | rdCr | rdP0Clda0 | rdP0Clda1 | rdP0Bnry | rdP0Tsr | rdP0Ncr | rdP0Fifo | rdP0Isr | rdP0Crda0 | rdP0Crda1
  | rdP0Rsv0a | rdP0Rsv0b | rdP0Rsr | rdP0Cntr0 | rdP0Cntr1 | rdP0Cntr2 | rdP1Par0 | rdP1Par1 | rdP1Par2 | rdP1Par3
  | rdP1Par4 | rdP1Par5 | rdP1Curr | rdP1Mar0 | rdP1Mar1 | rdP1Mar2 | rdP1Mar3 | rdP1Mar4 | rdP1Mar5 | rdP1Mar6
  | rdP1Mar7 | rdP2Pstart | rdP2Pstop | rdP2Rnpp | rdP2Tpsr | rdP2Lnpp | rdP2Acu | rdP2Acl | rdP2Rsv8 | rdP2Rsv9
  | rdP2Rsva | rdP2Rsvb | rdP2Rcr | rdP2Tcr | rdP2Dcr | rdP2Imr | rdP31 | rdP32 | rdP33 | rdP34 | rdP35 | rdP36
  | rdP37 | rdP38 | rdP39 | rdP3A | rdP3B | rdP3C | rdP3D | rdP3E | rdP3F => exact absurd hi (by decide)

/-- An ISR write does the same to both where the error bits of ISR are unset, as in the invariant. -/
theorem wrIsr_sameButUnused (v : Byte) {s t : State} (hs : s.Inv) (h : withoutUnused s = withoutUnused t) :
    sameButUnused (exec (.wrP0Isr v) s) (exec (.wrP0Isr v) t) := by
  have hisr : s.isr = t.isr := congrArg (fun s => s.isr) h
  calc withoutUnused (lowerIrq (clearIsr v s))
      = withoutUnused (lowerIrq (clearIsr v (withoutUnused s))) := acknowledge_withoutUnused hs.isrUnset v
    _ = withoutUnused (lowerIrq (clearIsr v (withoutUnused t))) := by rw [h]
    _ = withoutUnused (lowerIrq (clearIsr v t)) := (acknowledge_withoutUnused (hisr ▸ hs.isrUnset) v).symm

theorem exec_sameButUnused {i : Instr} (hi : Instr.acts i) {s t : State} (hs : s.Inv)
    (h : withoutUnused s = withoutUnused t) : sameButUnused (exec i s) (exec i t) := by
  by_cases hcr : ∃ v, i = .wrCr v
  · obtain ⟨v, rfl⟩ := hcr
    exact wrCr_sameButUnused v h
  by_cases hisr : ∃ v, i = .wrP0Isr v
  · obtain ⟨v, rfl⟩ := hisr
    exact wrIsr_sameButUnused v hs h
  have hexec := wiped_exec hi (fun v e => hcr ⟨v, e⟩) (fun v e => hisr ⟨v, e⟩)
  rw [sameButUnused_iff, hexec s, h, ← hexec t]

/-- Settles O56: each operation takes what it does from the fields with an effect (`IgnoresUnused`). The invariant serves
the ISR write, whose lowering masks with IMR bits 2 to 5; of the stored `rdma_cmd` a CR write consults only whether it is
1 or 3. -/
theorem unusedFieldsNeverMatter : Obligations.UnusedFieldsNeverMatter := by
  refine ⟨fun i s t hs h hi => exec_sameButUnused hi hs h, fun s t h => ⟨?_, fun bytes => ?_⟩, fun v w s => ?_⟩
  · exact txComplete_ignoresUnused.congr h
  · exact (receive_ignoresUnused bytes).congr h
  · exact wrCr_sameButUnused_of_inertCommands s

end Sys2Proof.Machine

/-! ## Buffer-space accesses and register reads (O46, O47, O55) -/

namespace Sys2Proof.Machine

/-! ### A buffer read by region (R71 to R74) -/

/-- Under the PROM window a read returns the PROM byte, wherever memory starts. -/
theorem chipRead8_of_prom (s : State) {a : Int} (h : 0 ≤ a ∧ a < 32) : chipRead8 s a = s.macaddr[a.toNat] :=
  dif_pos h

theorem chipRead8_of_backed {s : State} {a : Int} (hwin : ¬(0 ≤ a ∧ a < 32)) (hb : backed s.cfg a = true) :
    chipRead8 s a = Memory.read s.mem (a - s.cfg.memStart).toNat := by
  rw [chipRead8, dif_neg hwin, if_pos hb]

theorem chipRead8_of_unbacked {s : State} {a : Int} (hwin : ¬(0 ≤ a ∧ a < 32)) (hb : ¬backed s.cfg a = true) :
    chipRead8 s a = 0xFF#8 := by
  rw [chipRead8, dif_neg hwin, if_neg hb]

/-- The two bytes of a word share no bit, so joining them adds them. -/
theorem chipRead16_toNat (s : State) (a : Int) :
    (chipRead16 s a).toNat = (chipRead8 s a).toNat + 256 * (chipRead8 s (a + 1)).toNat := by
  have hlo := (chipRead8 s a).isLt
  have hhi := (chipRead8 s (a + 1)).isLt
  have hadd := Nat.shiftLeft_add_eq_or_of_lt hlo (chipRead8 s (a + 1)).toNat
  simp (disch := omega) only [chipRead16, BitVec.toNat_or, BitVec.toNat_shiftLeft, BitVec.toNat_setWidth,
    Nat.mod_eq_of_lt, Nat.shiftLeft_eq, Nat.or_comm (chipRead8 s a).toNat] at hadd ⊢
  omega

/-- Settles O46: each region has its own equation for `chipRead8`, and the two bytes of a word add up. -/
theorem bufferReadsByRegion : Obligations.BufferReadsByRegion := by
  refine ⟨fun s k => ?prom, fun s a hwin hlo hhi => ?backed, fun s a hwin hout => ?unbacked, chipRead16_toNat⟩
  case prom => exact chipRead8_of_prom s (by omega)
  case backed => exact chipRead8_of_backed hwin (backed_iff.2 ⟨hlo, hhi⟩)
  case unbacked => exact chipRead8_of_unbacked hwin (mt backed_iff.1 hout)

/-! ### A read after a buffer write (R75) -/

/-- The PROM window and unbacked space read as before, and backed space as `memoryWrite8_read` says. -/
theorem chipRead8_chipWrite8 {s : State} (h : Memory.wf s.mem) (a b : Int) (v : Byte) :
    chipRead8 (chipWrite8 s a v) b =
      if b = a ∧ 0 ≤ a ∧ a ≤ 0xFFFF ∧ ¬(0 ≤ a ∧ a < 32) ∧ backed s.cfg a = true then v else chipRead8 s b := by
  by_cases hwin : 0 ≤ b ∧ b < 32
  · rw [chipRead8_of_prom _ hwin, chipRead8_of_prom _ hwin, if_neg (by rintro ⟨rfl, -, -, hn, -⟩; exact hn hwin)]
    rfl
  by_cases hb : backed s.cfg b = true
  · rw [chipRead8_of_backed (s := chipWrite8 s a v) hwin hb, chipRead8_of_backed hwin hb]
    refine (memoryWrite8_read h v hb).trans (if_congr ⟨?_, ?_⟩ rfl rfl)
    · rintro ⟨rfl, hlo, hhi⟩
      exact ⟨rfl, hlo, hhi, hwin, hb⟩
    · rintro ⟨e, hlo, hhi, -⟩
      exact ⟨e, hlo, hhi⟩
  · rw [chipRead8_of_unbacked (s := chipWrite8 s a v) hwin hb, chipRead8_of_unbacked hwin hb,
      if_neg (by rintro ⟨rfl, -, -, -, hn⟩; exact hb hn)]

/-! ### The PROM (R76) -/

@[simp] theorem storeCommand_macaddr (v : Byte) (s : State) : (storeCommand v s).macaddr = s.macaddr := by
  rw [storeCommand_eq]

@[simp] theorem sendPacketCommand_macaddr (s : State) : (sendPacketCommand s).macaddr = s.macaddr := by
  rw [sendPacketCommand_eq]

@[simp] theorem irqProbe_macaddr (s : State) : (irqProbe s).macaddr = s.macaddr := by rw [irqProbe_eq]

@[simp] theorem dmaAdvance_macaddr (n : Nat) (s : State) : (dmaAdvance n s).macaddr = s.macaddr := by rw [dmaAdvance_eq]

@[simp] theorem receive_macaddr (bytes : List Byte) (s : State) : (receive bytes s).macaddr = s.macaddr := by
  rw [receive_eq]

@[simp] theorem raisePktTx_macaddr (s : State) : (raisePktTx s).macaddr = s.macaddr := by rw [raisePktTx_eq]

@[simp] theorem txComplete_macaddr (s : State) : (txComplete s).macaddr = s.macaddr := by rw [txComplete_eq]

@[simp] theorem externalTransmit_macaddr (s : State) : (externalTransmit s).macaddr = s.macaddr := by
  cases hd : s.cfg.txDeferred with
  | false => rw [externalTransmit_eq_sync s hd]
  | true => rw [externalTransmit_eq_deferred s hd]

/-- A buffer write never reaches the PROM, not even at its own addresses. -/
@[simp] theorem chipWrite8_macaddr (s : State) (a : Int) (v : Byte) : (chipWrite8 s a v).macaddr = s.macaddr := rfl

theorem exec_macaddr {i : Instr} {s t : State} (h : exec i s = .next t) (hi : i ≠ .rdReset) : t.macaddr = s.macaddr := by
  cases exec_effect h with
  | reset => exact absurd rfl hi
  | command v u hu =>
    exact command_induction (P := fun t => t.macaddr = s.macaddr) (by simp) (by simp) (by simp) (by simp) (by simp) hu
      (by simp)
  | isr => rw [lowerIrq_eq, clearIsr_eq]
  | dataRead | dataWrite => simp
  | returned | ignored | pageStart | pageStop | boundPtr | txPageStart | txBytesLow | txBytesHigh | remoteBytesLow
  | remoteBytesHigh | rcr | tcr | dcr | imr | currPage | localDmaLow | localDmaHigh | rempktPtr | localpktPtr
  | addressCntHigh | addressCntLow | remoteStartLow | remoteStartHigh | mchash => rfl

/-- Settles O47: a read after a buffer write goes by the region of the address read, and of all accesses' effects only a reset
writes the PROM. -/
theorem bufferWriteIsReadBack : Obligations.BufferWriteIsReadBack := by
  refine ⟨fun s a b v h => ⟨?readBack, memoryWrite8_wf h a v, rfl⟩, fun i s t h hi => ?accesses,
    fun s => ⟨fun bytes => receive_macaddr bytes s, txComplete_macaddr s⟩⟩
  case readBack => simpa only [backed_iff, memSize, Nat.cast_ofNat] using chipRead8_chipWrite8 h a b v
  case accesses =>
    refine exec_macaddr h ?_
    rintro rfl
    exact absurd hi (by decide)

/-! ### Reads of registers (R79) -/

/-- A register read returns a byte of the state that is not the byte returned last, and changes nothing. -/
theorem registerRead_returning {i : Instr} (hread : i.dataByte = none) (hport : isDataPort i = false)
    (hreset : i ≠ .rdReset) :
    ∃ value : State → Byte, (∀ s, exec i s = returning (value s) s) ∧ ∀ s r, value (s.setReadData r) = value s := by
  cases i with
  | rdCr | rdP0Clda0 | rdP0Clda1 | rdP0Bnry | rdP0Tsr | rdP0Ncr | rdP0Fifo | rdP0Isr | rdP0Crda0 | rdP0Crda1
  | rdP0Rsv0a | rdP0Rsv0b | rdP0Rsr | rdP0Cntr0 | rdP0Cntr1 | rdP0Cntr2 | rdP1Par0 | rdP1Par1 | rdP1Par2 | rdP1Par3
  | rdP1Par4 | rdP1Par5 | rdP1Curr | rdP1Mar0 | rdP1Mar1 | rdP1Mar2 | rdP1Mar3 | rdP1Mar4 | rdP1Mar5 | rdP1Mar6
  | rdP1Mar7 | rdP2Pstart | rdP2Pstop | rdP2Rnpp | rdP2Tpsr | rdP2Lnpp | rdP2Acu | rdP2Acl | rdP2Rsv8 | rdP2Rsv9
  | rdP2Rsva | rdP2Rsvb | rdP2Rcr | rdP2Tcr | rdP2Dcr | rdP2Imr | rdP31 | rdP32 | rdP33 | rdP34 | rdP35 | rdP36
  | rdP37 | rdP38 | rdP39 | rdP3A | rdP3B | rdP3C | rdP3D | rdP3E | rdP3F =>
    exact ⟨_, fun _ => rfl, fun _ _ => rfl⟩
  | rdData10 | rdData11 | rdData12 | rdData13 | rdData14 | rdData15 | rdData16 | rdData17 | rdData18 | rdData19
  | rdData1a | rdData1b | rdData1c | rdData1d | rdData1e => exact absurd hport (by decide)
  | rdReset => exact absurd rfl hreset
  | _ => cases hread

/-! ### The address after a data-port access, in the words of the spec (R201, R204) -/

theorem accessLength_eq_dmaStep (s : State) : accessLength s = dmaStep s := by
  simp [accessLength, dmaStep]

theorem pageWord_toNat (p : Byte) : (pageWord p).toNat = p.toNat * 256 := by
  have hp := p.isLt
  rw [pageWord, BitVec.toNat_ofNat, Nat.mod_eq_of_lt (by omega)]

theorem advancedAddress_accessLength (s : State) :
    advancedAddress (accessLength s) s = BitVec.ofNat 16 (dmaNextAddress s) := by
  have hsum : s.remoteDma + BitVec.ofNat 16 (dmaStep s) =
      BitVec.ofNat 16 ((s.remoteDma.toNat + dmaStep s) % 65536) := by
    apply BitVec.eq_of_toNat_eq
    simp
  have hpage : BitVec.ofNat 16 ((s.remoteDma.toNat + dmaStep s) % 65536) = pageWord s.pageStop ↔
      (s.remoteDma.toNat + dmaStep s) % 65536 = s.pageStop.toNat * 256 := by
    rw [← BitVec.toNat_inj, pageWord_toNat, BitVec.toNat_ofNat]
    omega
  simp only [advancedAddress, dmaNextAddress, accessLength_eq_dmaStep, hsum, hpage, apply_ite (BitVec.ofNat 16)]
  rfl

/-! ### Reads of the data port (R94, R202) -/

/-- The offset of a data-port read selects nothing. -/
theorem exec_of_mem_dataReads {i : Instr} (h : i ∈ dataReads) (s : State) : exec i s = dataPortRead s := by
  fin_cases h <;> rfl

theorem dataPortRead_remoteDma (s : State) :
    ∃ t, dataPortRead s = .next t ∧ t.remoteDma = BitVec.ofNat 16 (dmaNextAddress s) := by
  refine ⟨_, rfl, ?_⟩
  rw [State.setReadData_remoteDma, dmaAdvance_eq, advancedAddress_accessLength]

/-- Settles O55: a register read returns a byte that does not depend on the byte returned before (`registerRead_returning`);
a data-port read advances the address and a reset-port read resets CR. -/
theorem registerReadsHaveNoSideEffect : Obligations.RegisterReadsHaveNoSideEffect := by
  refine ⟨fun i s hread hport hreset => ?registers, fun s i hi => ?dataPort, fun s => ⟨_, rfl, ?resetPort⟩⟩
  case registers =>
    obtain ⟨value, hexec, hvalue⟩ := registerRead_returning hread hport hreset
    refine ⟨value s, hexec s, ?_⟩
    have hsame : value { s with readData := some (value s) } = value s := hvalue s _
    rw [hexec, hsame]
    rfl
  case dataPort =>
    rw [exec_of_mem_dataReads hi]
    exact dataPortRead_remoteDma s
  case resetPort =>
    obtain ⟨hcr, -⟩ := resetRegisters_toByte
    exact hcr

end Sys2Proof.Machine

/-! ## The encoding of accesses, wide accesses, reserved reads (O1 to O6, O30, O57) -/

namespace Sys2Proof.Machine

/-! ### A descriptor and its fields (R91) -/

/-- A descriptor holds nothing but its three fields. -/
theorem descriptor_fields (k : Byte) : descriptor (descriptorIsWrite k) (descriptorPage k) (descriptorOffset k) = k := by
  revert k
  decide

theorem exists_eq_descriptor {k : Byte} {d : Bool} (h : descriptorIsWrite k = d) :
    ∃ pp off, k = descriptor d pp off := by
  subst h
  exact ⟨_, _, (descriptor_fields k).symm⟩

/-- The mask 0x9F drops the page and keeps direction and offset (R92). -/
theorem descriptor_and_pageMask (d : Bool) (pp : BitVec 2) (off : BitVec 5) :
    descriptor d pp off &&& 0x9F#8 = descriptor d 0 off := by
  revert d pp off
  decide

theorem descriptorOffset_and_pageMask (k : Byte) : descriptorOffset (k &&& 0x9F#8) = descriptorOffset k := by
  revert k
  decide

/-- What the mask 0x9F drops selects nothing where the page is ignored (R92, R94, R95). -/
theorem decodeAccess_and_pageMask {k : Byte} (h : ignoresPage (descriptorOffset k) = true) (v : Byte) :
    decodeAccess (k &&& 0x9F#8) v = decodeAccess k v := by
  rw [← descriptor_fields k, descriptor_and_pageMask]
  cases hd : descriptorIsWrite k <;> simp [decodeAccess, h]

/-! ### The row of a decoded access (R92 to R101) -/

theorem decodeCommonRead_pattern {n : Nat} {i : Instr} (h : decodeCommonRead n = some i) :
    i.pattern = descriptor false 0 (BitVec.ofNat 5 n) ∧ i.dataByte = none := by
  unfold decodeCommonRead at h
  split at h <;> cases h <;> exact ⟨rfl, rfl⟩

theorem decodeCommonWrite_pattern {n : Nat} {v : Byte} {i : Instr} (h : decodeCommonWrite n v = some i) :
    i.pattern = descriptor true 0 (BitVec.ofNat 5 n) ∧ i.dataByte = some v := by
  unfold decodeCommonWrite at h
  split at h <;> cases h <;> exact ⟨rfl, rfl⟩

theorem page_cases (pp : BitVec 2) : pp = 0#2 ∨ pp = 1#2 ∨ pp = 2#2 ∨ pp = 3#2 := by
  revert pp
  decide

theorem decodePagedRead_pattern {pp : BitVec 2} {n : Nat} {i : Instr} (h : decodePagedRead pp n = some i) :
    i.pattern = descriptor false pp (BitVec.ofNat 5 n) ∧ i.dataByte = none := by
  obtain rfl | rfl | rfl | rfl := page_cases pp <;>
  · simp only [decodePagedRead, decodePage0Read, decodePage1Read, decodePage2Read, decodePage3Read,
      BitVec.reduceToNat] at h
    split at h <;> cases h <;> exact ⟨rfl, rfl⟩

theorem decodePagedWrite_pattern {pp : BitVec 2} {n : Nat} {v : Byte} {i : Instr}
    (h : decodePagedWrite pp n v = some i) :
    i.pattern = descriptor true pp (BitVec.ofNat 5 n) ∧ i.dataByte = some v := by
  obtain rfl | rfl | rfl | rfl := page_cases pp <;>
  · simp only [decodePagedWrite, decodePage0Write, decodePage1Write, decodePage2Write, decodePage3Write,
      BitVec.reduceToNat] at h
    split at h <;> cases h <;> exact ⟨rfl, rfl⟩

/-- The match of a decoded row is the descriptor, its page 0 where the page is ignored, and a write holds the data
byte. -/
theorem decodeAccess_pattern_dataByte {k v : Byte} {i : Instr} (h : decodeAccess k v = some i) :
    i.pattern = descriptor (descriptorIsWrite k) (if ignoresPage (descriptorOffset k) then 0 else descriptorPage k)
      (descriptorOffset k) ∧ i.dataByte = if descriptorIsWrite k then some v else none := by
  unfold decodeAccess at h
  cases hd : descriptorIsWrite k <;> cases hp : ignoresPage (descriptorOffset k) <;> simp only [hd, hp] at h
  · simpa using decodePagedRead_pattern h
  · simpa using decodeCommonRead_pattern h
  · simpa using decodePagedWrite_pattern h
  · simpa using decodeCommonWrite_pattern h

theorem Instr.mask_of_ignoresPage {i : Instr} (h : ignoresPage (descriptorOffset i.pattern) = true) :
    i.mask = 0x9F#8 := if_pos h

theorem Instr.mask_of_paged {i : Instr} (h : ¬ignoresPage (descriptorOffset i.pattern) = true) :
    i.mask = 0xFF#8 := if_neg h

theorem and_fullMask (k : Byte) : k &&& 0xFF#8 = k := BitVec.and_allOnes

/-- A decoded access matches its descriptor under its mask (R91). -/
theorem and_mask_of_decodeAccess {k v : Byte} {i : Instr} (h : decodeAccess k v = some i) :
    k &&& i.mask = i.pattern := by
  obtain ⟨hpat, -⟩ := decodeAccess_pattern_dataByte h
  have hoff : descriptorOffset i.pattern = descriptorOffset k := by rw [hpat, descriptorOffset_descriptor]
  by_cases hp : ignoresPage (descriptorOffset k) = true
  · rw [Instr.mask_of_ignoresPage (by rwa [hoff]), hpat, if_pos hp, ← descriptor_and_pageMask, descriptor_fields]
  · rw [Instr.mask_of_paged (by rwa [hoff]), hpat, if_neg hp, descriptor_fields, and_fullMask]

/-- The match of a row decodes to the row, row by row of the table. -/
theorem decodeAccess_pattern (i : Instr) {v : Byte} (h : i.dataByte = none ∨ i.dataByte = some v) :
    decodeAccess i.pattern v = some i := by
  obtain h | h := h
  · cases i <;> cases h <;> rfl
  · cases i <;> cases h <;> (dsimp only [Instr.pattern]; rfl)

/-- Every descriptor that matches a row under its mask decodes to the row (R91). -/
theorem decodeAccess_of_and_mask {k v : Byte} {i : Instr} (hk : k &&& i.mask = i.pattern)
    (hv : i.dataByte = none ∨ i.dataByte = some v) : decodeAccess k v = some i := by
  rw [← decodeAccess_pattern i hv, ← hk]
  by_cases hp : ignoresPage (descriptorOffset i.pattern) = true
  · rw [Instr.mask_of_ignoresPage hp] at hk ⊢
    rw [← hk, descriptorOffset_and_pageMask] at hp
    exact (decodeAccess_and_pageMask hp v).symm
  · rw [Instr.mask_of_paged hp, and_fullMask]

/-- Every descriptor decodes (R108). -/
theorem decodeAccess_total (k v : Byte) : ∃ i, decodeAccess k v = some i := by
  cases hd : descriptorIsWrite k with
  | false =>
    obtain ⟨pp, off, rfl⟩ := exists_eq_descriptor hd
    obtain ⟨i, hi, hn⟩ := readCycle_decodes pp off
    exact ⟨i, decodeAccess_of_and_mask (and_mask_of_decodeAccess hi) (.inl hn)⟩
  | true =>
    obtain ⟨pp, off, rfl⟩ := exists_eq_descriptor hd
    obtain ⟨i, hi, -⟩ := writeCycle_decodes pp off v
    exact ⟨i, hi⟩

/-- Settles O3: every descriptor decodes, to a row it matches, and whatever row it matches is the one decoded. -/
theorem everyDescriptorDecodesToExactlyOneRow : Obligations.EveryDescriptorDecodesToExactlyOneRow := by
  refine ⟨fun k v => ?rows,
    fun v => ⟨Imr.toByte_ofByte v, Dcr.toByte_ofByte v, Tcr.toByte_ofByte v, Rcr.toByte_ofByte v⟩⟩
  case rows =>
    obtain ⟨i, hi⟩ := decodeAccess_total k v
    refine ⟨i, hi, fun j => ⟨fun ⟨hmatch, hdata⟩ => ?unique, ?own⟩⟩
    case unique => exact Option.some.inj ((decodeAccess_of_and_mask hmatch hdata).symm.trans hi)
    case own =>
      rintro rfl
      refine ⟨and_mask_of_decodeAccess hi, ?_⟩
      rw [(decodeAccess_pattern_dataByte hi).2]
      cases descriptorIsWrite k <;> simp

/-! ### Byte lists -/

theorem decode_singleton_of_write {k : Byte} (h : descriptorIsWrite k = true) : decode [k] = .error .noDataByte := by
  simp [decode, h]

/-- Bytes that begin with a whole access decode to the row of its descriptor, and the bytes after it are left. -/
theorem decode_cons_dataByte {k : Byte} {i : Instr} (h : k &&& i.mask = i.pattern) (rest : List Byte) :
    decode (k :: (i.dataByte.toList ++ rest)) = .ok (i, rest) := by
  cases hv : i.dataByte with
  | none =>
    have hi : decodeAccess k 0#8 = some i := decodeAccess_of_and_mask h (.inl hv)
    have hd : descriptorIsWrite k = false := by simpa [hv] using (decodeAccess_pattern_dataByte hi).2
    simp [decode, hd, hi]
  | some v =>
    have hi : decodeAccess k v = some i := decodeAccess_of_and_mask h (.inr hv)
    have hd : descriptorIsWrite k = true := by simpa [hv] using (decodeAccess_pattern_dataByte hi).2
    simp [decode, hd, hi]

/-- Everything `decode` can answer: the list is empty, or a write descriptor cut short, or begins with a whole access. -/
theorem decode_cases (bytes : List Byte) :
    (bytes = [] ∧ decode bytes = .error .noDescriptor) ∨
    (∃ k, descriptorIsWrite k = true ∧ bytes = [k] ∧ decode bytes = .error .noDataByte) ∨
    ∃ (k : Byte) (i : Instr) (rest : List Byte), k &&& i.mask = i.pattern ∧
      bytes = k :: (i.dataByte.toList ++ rest) ∧ decode bytes = .ok (i, rest) := by
  match bytes with
  | [] => exact .inl ⟨rfl, rfl⟩
  | k :: tail =>
    cases hd : descriptorIsWrite k with
    | false =>
      obtain ⟨i, hi⟩ := decodeAccess_total k 0#8
      obtain ⟨-, hv⟩ := decodeAccess_pattern_dataByte hi
      exact .inr (.inr ⟨k, i, tail, and_mask_of_decodeAccess hi, by simp [hv, hd], by simp [decode, hd, hi]⟩)
    | true =>
      match tail with
      | [] => exact .inr (.inl ⟨k, hd, rfl, by simp [decode, hd]⟩)
      | v :: rest =>
        obtain ⟨i, hi⟩ := decodeAccess_total k v
        obtain ⟨-, hv⟩ := decodeAccess_pattern_dataByte hi
        exact .inr (.inr ⟨k, i, rest, and_mask_of_decodeAccess hi, by simp [hv, hd], by simp [decode, hd, hi]⟩)

/-- Settles O4: the descriptor of an encoding is the match of its row, which lies under its mask, and the data byte of a
write follows it. -/
theorem decodeReadsBackEveryEncoding : Obligations.DecodeReadsBackEveryEncoding := by
  intro i rest _
  obtain ⟨hmask, -⟩ := Laws.OwnRow.of_any i
  exact decode_cons_dataByte hmask rest

/-- Settles O5: of the three answers of `decode_cases` each claim rules out all but its own. -/
theorem decodeDropsOnlyIgnoredPageBits : Obligations.DecodeDropsOnlyIgnoredPageBits := by
  refine ⟨fun bytes rest i h => ?row, fun bytes => ⟨fun h => ?empty, ?emptyFails⟩,
    fun bytes => ⟨fun h => ?short, ?shortFails⟩, fun bytes h => ?never⟩
  case emptyFails =>
    rintro rfl
    rfl
  case shortFails =>
    rintro ⟨k, hd, rfl⟩
    exact decode_singleton_of_write hd
  all_goals
    obtain ⟨hb, e⟩ | ⟨k, hd, hb, e⟩ | ⟨k, j, rest', hk, hb, e⟩ := decode_cases bytes <;> rw [e] at h <;> cases h
  case row => exact ⟨k, hk, hb⟩
  case empty => exact hb
  case short => exact ⟨k, hd, hb⟩

/-- Settles O1: the fields are read back from the descriptor, and every descriptor decodes to the row it matches. -/
theorem descriptorHoldsDirectionPageOffset : Obligations.DescriptorHoldsDirectionPageOffset := by
  refine ⟨fun d pp off => ?fields, fun k v i => and_mask_of_decodeAccess, fun k rest hd => ?read,
    fun k v rest hd => ?write⟩
  case fields =>
    exact ⟨descriptorIsWrite_descriptor d pp off, descriptorPage_descriptor d pp off,
      descriptorOffset_descriptor d pp off⟩
  case read =>
    obtain ⟨pp, off, rfl⟩ := exists_eq_descriptor hd
    exact decode_readDescriptor pp off rest
  case write =>
    obtain ⟨pp, off, rfl⟩ := exists_eq_descriptor hd
    exact decode_writeDescriptor pp off v rest

/-- Settles O2: each word is one row of a page map. -/
theorem specWordsDecodeToTheirRows : Obligations.SpecWordsDecodeToTheirRows :=
  ⟨rfl, rfl, rfl, rfl, rfl, rfl, rfl, rfl, rfl, rfl, rfl, rfl, rfl, rfl, rfl⟩

/-! ### The offsets that ignore the page (R92, R94, R95) -/

theorem decodeAccess_commonRead {off : BitVec 5} (h : ignoresPage off = true) (pp : BitVec 2) (v : Byte) :
    decodeAccess (descriptor false pp off) v = decodeCommonRead off.toNat := by
  simp [decodeAccess, h]

theorem decodeAccess_commonWrite {off : BitVec 5} (h : ignoresPage off = true) (pp : BitVec 2) (v : Byte) :
    decodeAccess (descriptor true pp off) v = decodeCommonWrite off.toNat v := by
  simp [decodeAccess, h]

section
variable {off : BitVec 5} (hlo : 0x10 ≤ off.toNat) (hhi : off.toNat ≤ 0x1E) (pp : BitVec 2) (v : Byte)
include hlo hhi

theorem decodeAccess_dataRead : ∃ i ∈ dataReads, decodeAccess (descriptor false pp off) v = some i := by
  rw [decodeAccess_commonRead ((ignoresPage_iff off).2 (.inr hlo))]
  generalize off.toNat = n at hlo hhi
  interval_cases n <;> exact ⟨_, by simp [dataReads], rfl⟩

theorem decodeAccess_dataWrite : ∃ i ∈ dataWrites v, decodeAccess (descriptor true pp off) v = some i := by
  rw [decodeAccess_commonWrite ((ignoresPage_iff off).2 (.inr hlo))]
  generalize off.toNat = n at hlo hhi
  interval_cases n <;> exact ⟨_, by simp [dataWrites], rfl⟩

end

/-- The offset of a data-port write selects nothing. -/
theorem exec_of_mem_dataWrites {i : Instr} {v : Byte} (h : i ∈ dataWrites v) (s : State) :
    exec i s = dataPortWrite v s := by
  fin_cases h <;> rfl

/-- Settles O6: at these offsets the common maps decode, whatever the page is, and the data-port rows run one access. -/
theorem commandDataAndResetPortsIgnoreThePage : Obligations.CommandDataAndResetPortsIgnoreThePage := by
  refine ⟨fun pp v => ⟨?crRead, ?crWrite⟩, fun pp off v hlo hhi => ⟨?dataRead, ?dataWrite⟩,
    fun pp v => ⟨?resetRead, ?resetWrite, fun s => ⟨rfl, _, rfl, rfl⟩⟩⟩
  case crRead => exact decodeAccess_commonRead rfl pp v
  case crWrite => exact decodeAccess_commonWrite rfl pp v
  case resetRead => exact decodeAccess_commonRead rfl pp v
  case resetWrite => exact decodeAccess_commonWrite rfl pp v
  case dataRead =>
    obtain ⟨i, hmem, hi⟩ := decodeAccess_dataRead hlo hhi pp v
    exact ⟨i, hmem, hi, exec_of_mem_dataReads hmem⟩
  case dataWrite =>
    obtain ⟨i, hmem, hi⟩ := decodeAccess_dataWrite hlo hhi pp v
    exact ⟨i, hmem, hi, exec_of_mem_dataWrites hmem⟩

/-! ### Rows and what they change -/

theorem Instr.mask_of_pattern {i : Instr} {p : Byte} (h : i.pattern = p) :
    i.mask = if ignoresPage (descriptorOffset p) then 0x9F else 0xFF := by
  rw [Instr.mask, h]

/-- A read row, from the row of its access and what the access returns. -/
theorem readsAs_of_row {p m : Byte} {i : Instr} {value : State → Byte} (hp : i.pattern = p)
    (hm : (if ignoresPage (descriptorOffset p) then 0x9F else 0xFF) = m) (hn : i.dataByte = none)
    (hexec : ∀ s, exec i s = .next { s with readData := some (value s) }) : readsAs p m i value := by
  refine ⟨fun k v hk => decodeAccess_of_and_mask ?_ (.inl hn), hexec⟩
  rwa [Instr.mask_of_pattern hp, hm, hp]

/-- A write row, from the row of its accesses and what they do. -/
theorem writesAs_of_row {p m : Byte} {i : Byte → Instr} {effect : Byte → State → State} (hp : ∀ v, (i v).pattern = p)
    (hm : (if ignoresPage (descriptorOffset p) then 0x9F else 0xFF) = m) (hv : ∀ v, (i v).dataByte = some v)
    (hexec : ∀ v s, exec (i v) s = .next (effect v s)) : writesAs p m i effect := by
  refine ⟨fun k v hk => decodeAccess_of_and_mask ?_ (.inr (hv v)), hexec⟩
  rwa [Instr.mask_of_pattern (hp v), hm, hp]

/-- The state with every field wiped that an engine may write: a CR write, a frame, a completion, a data-port access. -/
def withoutEngineFields (s : State) : State :=
  { s with
    cr := {}, isr := {}, tsr := {}, rsr := {}
    currPage := 0, remoteStart := 0, remoteDma := 0, remoteBytes := 0
    mem := [], irqLevel := false, txPending := false, asserts := [], sent := [], draws := 0 }

@[simp] theorem storeCommand_engineFields (v : Byte) (s : State) :
    withoutEngineFields (storeCommand v s) = withoutEngineFields s := by
  rw [storeCommand_eq]
  rfl

@[simp] theorem sendPacketCommand_engineFields (s : State) :
    withoutEngineFields (sendPacketCommand s) = withoutEngineFields s := by
  rw [sendPacketCommand_eq]
  rfl

@[simp] theorem irqProbe_engineFields (s : State) : withoutEngineFields (irqProbe s) = withoutEngineFields s := by
  rw [irqProbe_eq]
  rfl

@[simp] theorem raisePktTx_engineFields (s : State) : withoutEngineFields (raisePktTx s) = withoutEngineFields s := by
  rw [raisePktTx_eq]
  rfl

@[simp] theorem receive_engineFields (bytes : List Byte) (s : State) :
    withoutEngineFields (receive bytes s) = withoutEngineFields s := by
  rw [receive_eq]
  rfl

@[simp] theorem externalTransmit_engineFields (s : State) :
    withoutEngineFields (externalTransmit s) = withoutEngineFields s := by
  cases hd : s.cfg.txDeferred with
  | false =>
    rw [externalTransmit_eq_sync s hd]
    rfl
  | true =>
    rw [externalTransmit_eq_deferred s hd]
    rfl

/-- A CR write writes engine fields alone (R112). -/
theorem wrCr_engineFields {v : Byte} {s t : State} (h : exec (.wrCr v) s = .next t) :
    withoutEngineFields t = withoutEngineFields s := by
  obtain ⟨u, hu, rfl⟩ := andThen_eq_next.1 h
  exact command_induction (P := fun t => withoutEngineFields t = withoutEngineFields s) (by simp) (by simp)
    (by simp) (by simp) (by simp) hu (by simp)

/-- No access writes the parameters, and only a reset the page-3 registers. -/
theorem exec_cfg_page3 {i : Instr} {s t : State} (h : exec i s = .next t) :
    t.cfg = s.cfg ∧ (i ≠ .rdReset → t.page3 = s.page3) := by
  cases exec_effect h with
  | command =>
    have hframe := wrCr_engineFields h
    exact ⟨congrArg (fun s => s.cfg) hframe, fun _ => congrArg (fun s => s.page3) hframe⟩
  | isr =>
    rw [lowerIrq_eq, clearIsr_eq]
    exact ⟨rfl, fun _ => rfl⟩
  | dataRead | dataWrite =>
    rw [dmaAdvance_eq]
    exact ⟨rfl, fun _ => rfl⟩
  | reset => exact ⟨rfl, fun hi => absurd rfl hi⟩
  | returned | ignored | pageStart | pageStop | boundPtr | txPageStart | txBytesLow | txBytesHigh | remoteBytesLow
  | remoteBytesHigh | rcr | tcr | dcr | imr | currPage | localDmaLow | localDmaHigh | rempktPtr | localpktPtr
  | addressCntHigh | addressCntLow | remoteStartLow | remoteStartHigh | mchash => exact ⟨rfl, fun _ => rfl⟩

/-- Settles O30: each row has its match and mask and its access one effect; no access writes the parameters, and of all
accesses' effects only a reset writes the page-3 registers. -/
theorem reservedReadsReturnOneFixedByte : Obligations.ReservedReadsReturnOneFixedByte := by
  iterate 21 refine ⟨readsAs_of_row rfl rfl rfl fun _ => rfl, ?_⟩
  iterate 15 refine ⟨writesAs_of_row (fun _ => rfl) rfl (fun _ => rfl) fun _ _ => rfl, ?_⟩
  refine ⟨fun i s t h _ => (exec_cfg_page3 h).1, fun i s t h hi => (exec_cfg_page3 h).2 ?_⟩
  rintro rfl
  exact absurd hi (by decide)

/-! ### Wide accesses (R107) -/

@[simp] theorem takeEvent_cr (rest : List Event) (s : State) : (takeEvent rest s).cr = s.cr := rfl
@[simp] theorem takeEvent_remoteStart (rest : List Event) (s : State) :
    (takeEvent rest s).remoteStart = s.remoteStart := rfl
@[simp] theorem takeEvent_remoteDma (rest : List Event) (s : State) :
    (takeEvent rest s).remoteDma = s.remoteDma := rfl
@[simp] theorem loadRemoteStart_cfg (w : Word) (s : State) : (loadRemoteStart w s).cfg = s.cfg := rfl
@[simp] theorem loadRemoteStart_cr (w : Word) (s : State) : (loadRemoteStart w s).cr = s.cr := rfl

/-- Two events, each performed with no byte returned yet. -/
theorem performAll_pair_of_next {d e : Event} {s t u : State} (ht : perform d (takeEvent s.inputs s) = .next t)
    (hu : perform e (takeEvent t.inputs t) = .next u) :
    performAll [d, e] s = .next (u, t.readData.toList ++ u.readData.toList) := by
  simpa using performAll_cons_of_next ht (performAll_cons_of_next hu (performAll_nil u))

theorem perform_inb_of_decodeAccess {s : State} {off : BitVec 5} {i : Instr}
    (h : decodeAccess (descriptor false s.cr.pgsel off) 0#8 = some i) : perform (inb s.cfg off) s = exec i s := by
  rw [perform_inb]
  exact runCycle_of_decode (rest := []) (by simp [readCycle, decode, h]) s

theorem perform_outb_of_decodeAccess {s : State} {off : BitVec 5} {v : Byte} {i : Instr}
    (h : decodeAccess (descriptor true s.cr.pgsel off) v = some i) : perform (outb s.cfg off v) s = exec i s := by
  rw [perform_outb]
  exact runCycle_of_decode (rest := []) (by simp [writeCycle, decode, h]) s

/-- The two bytes of a word share no bit, so joining them adds them. -/
theorem toNat_append_byte (high low : Byte) : (high ++ low).toNat = low.toNat + 256 * high.toNat := by
  rw [BitVec.toNat_append, ← Nat.shiftLeft_add_eq_or_of_lt low.isLt, Nat.shiftLeft_eq]
  omega

theorem highByte_append_lowByte (w : Word) : highByte w ++ lowByte w = w := by
  rw [highByte, lowByte, BitVec.extractLsb'_append_extractLsb'_eq_extractLsb' (by rfl)]
  exact BitVec.extractLsb'_eq_self

theorem setHighByte_setLowByte (u w : Word) : setHighByte (setLowByte u (lowByte w)) (highByte w) = w := by
  rw [← highByte_append_lowByte (setHighByte _ _), highByte_setHighByte, lowByte_setHighByte, lowByte_setLowByte,
    highByte_append_lowByte]

/-- Below 0x1F a word read is two read steps, and its bytes are the two they return (R107). -/
theorem performAll_inw (s : State) {off : BitVec 5} (h : off.toNat < 0x1F) :
    ∃ u t low high,
      step { s with inputs := inb s.cfg off :: s.inputs } = .next u ∧ u.readData = some low ∧
      step { u with inputs := inb s.cfg (off + 1) :: u.inputs } = .next t ∧ t.readData = some high ∧
      performAll (inw s.cfg off) s = .next (t, [low, high]) := by
  obtain ⟨u, low, hu, hlow, hcfg, -⟩ := perform_inb_next off (takeEvent s.inputs s)
  obtain ⟨t, high, ht, hhigh, -⟩ := perform_inb_next (off + 1) (takeEvent u.inputs u)
  rw [takeEvent_cfg] at hu hcfg ht
  rw [hcfg] at ht
  refine ⟨u, t, low, high, hu, hlow, ht, hhigh, ?_⟩
  rw [inw_eq s.cfg h, performAll_pair_of_next hu ht, hlow, hhigh]
  rfl

section
variable {s : State} (h : s.cr.pgsel = 0#2)
include h

theorem perform_outb_rsar0 (v : Byte) :
    perform (outb s.cfg 0x08 v) s = .next (loadRemoteStart (setLowByte s.remoteStart v) s) :=
  perform_outb_of_decodeAccess (i := .wrP0Rsar0 v) (by rw [h]; rfl)

theorem perform_outb_rsar1 (v : Byte) :
    perform (outb s.cfg 0x09 v) s = .next (loadRemoteStart (setHighByte s.remoteStart v) s) :=
  perform_outb_of_decodeAccess (i := .wrP0Rsar1 v) (by rw [h]; rfl)

theorem perform_inb_crda0 : perform (inb s.cfg 0x08) s = .next (s.setReadData (some (lowByte s.remoteDma))) :=
  perform_inb_of_decodeAccess (i := .rdP0Crda0) (by rw [h]; rfl)

theorem perform_inb_crda1 : perform (inb s.cfg 0x09) s = .next (s.setReadData (some (highByte s.remoteDma))) :=
  perform_inb_of_decodeAccess (i := .rdP0Crda1) (by rw [h]; rfl)

/-- On page 0 a word write to RSAR0 loads both halves of the remote address (R135, R136). -/
theorem performAll_outw_rsar (w : Word) :
    performAll (outw s.cfg 0x08 w) s =
      .next ({ s with remoteStart := w, remoteDma := w, readData := none }, []) := by
  have hlow := perform_outb_rsar0 (s := takeEvent s.inputs s) h (lowByte w)
  obtain ⟨t, ht⟩ : ∃ t, t = loadRemoteStart (setLowByte s.remoteStart (lowByte w)) (takeEvent s.inputs s) := ⟨_, rfl⟩
  have hhigh := perform_outb_rsar1 (s := takeEvent t.inputs t) (by simpa [ht] using h) (highByte w)
  simp only [takeEvent_cfg, takeEvent_remoteStart, ← ht] at hlow hhigh
  have hcfg : t.cfg = s.cfg := by simp [ht]
  have hport : (0x08 : BitVec 5) + 1 = 0x09 := rfl
  rw [hcfg] at hhigh
  rw [outw_eq s.cfg (by decide), hport, performAll_pair_of_next hlow hhigh]
  subst ht
  simp [loadRemoteStart_eq, takeEvent_eq, setHighByte_setLowByte]

/-- On page 0 a word read of CRDA0 returns the remote address (R120, R121). -/
theorem performAll_inw_crda :
    ∃ t, performAll (inw s.cfg 0x08) s = .next (t, [lowByte s.remoteDma, highByte s.remoteDma]) := by
  have hlow := perform_inb_crda0 (s := takeEvent s.inputs s) h
  obtain ⟨t, ht⟩ : ∃ t, t = (takeEvent s.inputs s).setReadData (some (lowByte s.remoteDma)) := ⟨_, rfl⟩
  have hhigh := perform_inb_crda1 (s := takeEvent t.inputs t) (by simpa [ht] using h)
  simp only [takeEvent_cfg, takeEvent_remoteDma, ← ht] at hlow hhigh
  have hcfg : t.cfg = s.cfg := by simp [ht]
  have hport : (0x08 : BitVec 5) + 1 = 0x09 := rfl
  rw [hcfg] at hhigh
  rw [inw_eq s.cfg (by decide), hport, performAll_pair_of_next hlow hhigh]
  simp [ht]

end

/-! ### Strings of data-port accesses (R107, R202, R203) -/

theorem dataPortRead_setReadData (r : Option Byte) (s : State) : dataPortRead (s.setReadData r) = dataPortRead s := by
  simp only [dataPortRead, dmaAdvance_eq]
  rfl

theorem dataPortWrite_setReadData (v : Byte) (r : Option Byte) (s : State) :
    dataPortWrite v (s.setReadData r) = andThen (dataPortWrite v s) (·.setReadData r) := by
  simp only [dataPortWrite, State.setReadData_remoteBytes, dmaAdvance_eq]
  split <;> rfl

theorem dataPortRead_next (s : State) :
    ∃ t b, dataPortRead s = .next t ∧ t.readData = some b ∧ t.cfg = s.cfg := by
  refine ⟨_, _, rfl, rfl, ?_⟩
  simp [dmaAdvance_eq]

theorem dataPortWrite_next (v : Byte) (s : State) : ∃ t, dataPortWrite v s = .next t ∧ t.cfg = s.cfg := by
  unfold dataPortWrite
  split
  · exact ⟨s, rfl, rfl⟩
  · exact ⟨_, rfl, by rw [dmaAdvance_eq]; rfl⟩

section
variable {off : BitVec 5} (hlo : 0x10 ≤ off.toNat) (hhi : off.toNat ≤ 0x1E)
include hlo hhi

theorem perform_inb_data (s : State) : perform (inb s.cfg off) s = dataPortRead s := by
  obtain ⟨i, hmem, hi⟩ := decodeAccess_dataRead hlo hhi s.cr.pgsel 0#8
  rw [perform_inb_of_decodeAccess hi, exec_of_mem_dataReads hmem]

theorem perform_outb_data (v : Byte) (s : State) : perform (outb s.cfg off v) s = dataPortWrite v s := by
  obtain ⟨i, hmem, hi⟩ := decodeAccess_dataWrite hlo hhi s.cr.pgsel v
  rw [perform_outb_of_decodeAccess hi, exec_of_mem_dataWrites hmem]

/-- `insb` on the data port returns the bytes its reads return, in order. -/
theorem performAll_insb_data (n : Nat) (s : State) :
    ∃ t, performAll (insb s.cfg off n) s = .next (t, bytesRead n s) ∧ (bytesRead n s).length = n := by
  induction n generalizing s with
  | zero => exact ⟨s, rfl, rfl⟩
  | succ n ih =>
    obtain ⟨t, b, ht, hb, hcfg⟩ := dataPortRead_next s
    obtain ⟨u, hu, hlen⟩ := ih t
    have hbytes : bytesRead (n + 1) s = t.readData.toList ++ bytesRead n t := by
      rw [bytesRead, show exec .rdData10 s = .next t from ht]
    have hfirst : perform (inb s.cfg off) (takeEvent s.inputs s) = .next t :=
      (perform_inb_data hlo hhi (takeEvent s.inputs s)).trans ((dataPortRead_setReadData none s).trans ht)
    rw [hcfg] at hu
    refine ⟨u, ?_, by simp [hbytes, hb, hlen]⟩
    rw [hbytes]
    exact performAll_cons_of_next hfirst hu

/-- `outsb` on the data port does what the data-port writes of its bytes do, and returns no byte. -/
theorem performAll_outsb_data (bytes : List Byte) (s : State) (r : Option Byte) :
    ∃ t q, transfer (bytes.map some) s = .next t ∧
      performAll (outsb s.cfg off bytes) (s.setReadData r) = .next (t.setReadData q, []) := by
  induction bytes generalizing s r with
  | nil => exact ⟨s, r, rfl, rfl⟩
  | cons v bytes ih =>
    obtain ⟨t, ht, hcfg⟩ := dataPortWrite_next v s
    obtain ⟨u, q, hu, hall⟩ := ih t none
    have hfirst : perform (outb s.cfg off v) (s.setReadData none) = .next (t.setReadData none) := by
      refine (perform_outb_data hlo hhi v (s.setReadData none)).trans ?_
      rw [dataPortWrite_setReadData, ht]
      rfl
    refine ⟨u, q, ?_, ?_⟩
    · rw [List.map_cons, transfer, dataAccess, show exec (.wrData10 v) s = .next t from ht]
      exact hu
    · rw [hcfg] at hall
      exact performAll_cons_of_next hfirst hall

end

/-! ### Page accesses (R107) -/

/-- A CR write with bit 2 clear completes and returns no byte (R112). -/
theorem wrCr_next_of_noTransmit {v : Byte} (h : v.getLsbD 2 = false) (s : State) :
    ∃ t, exec (.wrCr v) s = .next t ∧ t.readData = s.readData := by
  have hskip (u : State) : transmitIfAsked v u = .next u := if_neg (by rw [h]; decide)
  have hnext : exec (.wrCr v) s = .next (irqProbe (sendPacketCommand (storeCommand (coerceCommand v) s))) :=
    congrArg (andThen · irqProbe) (hskip _)
  exact ⟨_, hnext, congrArg (fun s => s.readData) (wrCr_engineFields hnext)⟩

/-- A page access with bit 2 clear completes on the page it names (R107, R112). -/
theorem performAll_page (s : State) (n : BitVec 2) {rest : BitVec 6} (h : rest.getLsbD 2 = false) :
    ∃ t, performAll [page s.cfg n rest] s = .next (t, []) ∧ t.cr.pgsel = n := by
  have hbit : (n ++ rest).getLsbD 2 = false := by
    rw [BitVec.getLsbD_append]
    exact h
  obtain ⟨t, ht, hread⟩ := wrCr_next_of_noTransmit hbit (takeEvent s.inputs s)
  have hperform : perform (outb s.cfg 0 (n ++ rest)) (takeEvent s.inputs s) = .next t :=
    (perform_outb_of_decodeAccess (s := takeEvent s.inputs s) (decodeAccess_commonWrite rfl _ _)).trans ht
  have hall := performAll_cons_of_next hperform (performAll_nil t)
  rw [hread] at hall
  exact ⟨t, hall, (wrCr_pgsel ht).trans BitVec.extractLsb'_append_eq_left⟩

/-- Settles O57: each pseudo-access is a list of byte accesses by definition, and each kind of list is run by its own
lemma. -/
theorem wideAccessesSplitLowestPortFirst : Obligations.WideAccessesSplitLowestPortFirst := by
  refine ⟨fun c off w v n bytes => ?expansion, fun s off hoff => ?wordRead, fun s w hpage => ?remoteAddress,
    fun s off n bytes hlo hhi => ?strings, fun s n rest => ?page⟩
  case expansion =>
    exact ⟨rfl, fun hoff => ⟨outw_eq c hoff w, inw_eq c hoff⟩, rfl, rfl, rfl, rfl⟩
  case wordRead =>
    obtain ⟨u, t, low, high, hu, hlow, ht, hhigh, hall⟩ := performAll_inw s hoff
    exact ⟨u, t, low, high, high ++ low, hu, hlow, ht, hhigh, hall, inwResult_pair low high,
      toNat_append_byte high low⟩
  case remoteAddress =>
    obtain ⟨t, ht⟩ := performAll_inw_crda hpage
    refine ⟨performAll_outw_rsar hpage w, t, _, ht, ?_⟩
    rw [inwResult_pair, highByte_append_lowByte]
  case strings =>
    obtain ⟨t, q, ht, hall⟩ := performAll_outsb_data hlo hhi bytes s s.readData
    exact ⟨performAll_insb_data hlo hhi n s, t, t.setReadData q, ht, hall, rfl⟩
  case page =>
    exact ⟨⟨n ++ rest, rfl, BitVec.extractLsb'_append_eq_left, BitVec.extractLsb'_append_eq_right⟩,
      performAll_page s n⟩

end Sys2Proof.Machine

/-! ## Register access (O10 to O12, O18 to O29, O31, O58) -/

namespace Sys2Proof.Machine

/-! ### Who changes a register -/

@[simp] theorem txComplete_engineFields (s : State) : withoutEngineFields (txComplete s) = withoutEngineFields s := by
  rw [txComplete_eq]
  rfl

@[simp] theorem dmaAdvance_engineFields (n : Nat) (s : State) :
    withoutEngineFields (dmaAdvance n s) = withoutEngineFields s := by
  rw [dmaAdvance_eq]
  rfl

@[simp] theorem acknowledge_engineFields (v : Byte) (s : State) :
    withoutEngineFields (lowerIrq (clearIsr v s)) = withoutEngineFields s := by
  rw [lowerIrq_eq, clearIsr_eq]
  rfl

/-- A register that no engine writes is kept by what writes engine fields alone. -/
theorem eq_of_engineFields {α : Type} {f : State → α} (hf : ∀ s, f (withoutEngineFields s) = f s) {s t : State}
    (h : withoutEngineFields t = withoutEngineFields s) : f t = f s := by
  rw [← hf t, h, hf]

theorem keptByEngines_of_engineFields {α : Type} {f : State → α} (hf : ∀ s, f (withoutEngineFields s) = f s) :
    keptByEngines f := fun s =>
  ⟨fun bytes => eq_of_engineFields hf (receive_engineFields bytes s),
    eq_of_engineFields hf (txComplete_engineFields s)⟩

/-- What the access `i` from `s` to `t` leaves of each register: the register is as before, unless `i` is one of its
writers. The reset-port read writes all of them but the two address filters (R294). -/
structure KeepsRegisters (i : Instr) (s t : State) : Prop where
  pageStart : (i.pattern == 0x81#8 || i.pattern == 0x1F#8) = false → t.pageStart = s.pageStart
  pageStop : (i.pattern == 0x82#8 || i.pattern == 0x1F#8) = false → t.pageStop = s.pageStop
  boundPtr : (i.pattern == 0x83#8 || i.pattern == 0x1F#8) = false → t.boundPtr = s.boundPtr
  txPageStart : (i.pattern == 0x84#8 || i.pattern == 0x1F#8) = false → t.txPageStart = s.txPageStart
  txBytes : (i.pattern == 0x85#8 || i.pattern == 0x86#8 || i.pattern == 0x1F#8) = false → t.txBytes = s.txBytes
  rcr : (i.pattern == 0x8C#8 || i.pattern == 0x1F#8) = false → t.rcr = s.rcr
  tcr : (i.pattern == 0x8D#8 || i.pattern == 0x1F#8) = false → t.tcr = s.tcr
  dcr : (i.pattern == 0x8E#8 || i.pattern == 0x1F#8) = false → t.dcr = s.dcr
  imr : (i.pattern == 0x8F#8 || i.pattern == 0x1F#8) = false → t.imr = s.imr
  localDma : (i.pattern == 0xC1#8 || i.pattern == 0xC2#8 || i.pattern == 0x1F#8) = false → t.localDma = s.localDma
  rempktPtr : (i.pattern == 0xC3#8 || i.pattern == 0x1F#8) = false → t.rempktPtr = s.rempktPtr
  localpktPtr : (i.pattern == 0xC5#8 || i.pattern == 0x1F#8) = false → t.localpktPtr = s.localpktPtr
  addressCnt : (i.pattern == 0xC6#8 || i.pattern == 0xC7#8 || i.pattern == 0x1F#8) = false → t.addressCnt = s.addressCnt
  mchash : ((0xA8#8).ule i.pattern && i.pattern.ule 0xAF#8) = false → t.mchash = s.mchash
  physaddr : t.physaddr = s.physaddr

theorem KeepsRegisters.refl (i : Instr) (s : State) : KeepsRegisters i s s := by
  constructor <;> intros <;> rfl

theorem KeepsRegisters.of_engineFields (i : Instr) {s t : State} (h : withoutEngineFields t = withoutEngineFields s) :
    KeepsRegisters i s t := by
  constructor <;> intros <;> exact eq_of_engineFields (fun _ => rfl) h

/-- Of all accesses, only its own writes and the reset-port read change a register that no engine writes. -/
theorem exec_keepsRegisters {i : Instr} {s t : State} (h : exec i s = .next t) : KeepsRegisters i s t := by
  have hs := KeepsRegisters.refl i s
  cases exec_effect h with
  | ignored => exact hs
  | command => exact .of_engineFields _ (wrCr_engineFields h)
  | isr v => exact .of_engineFields _ (acknowledge_engineFields v s)
  | dataRead => exact { KeepsRegisters.of_engineFields i (dmaAdvance_engineFields _ s) with }
  | dataWrite => exact .of_engineFields _ (dmaAdvance_engineFields _ _)
  | pageStart => exact { hs with pageStart := nofun }
  | pageStop => exact { hs with pageStop := nofun }
  | boundPtr => exact { hs with boundPtr := nofun }
  | txPageStart => exact { hs with txPageStart := nofun }
  | txBytesLow | txBytesHigh => exact { hs with txBytes := nofun }
  | rcr => exact { hs with rcr := nofun }
  | tcr => exact { hs with tcr := nofun }
  | dcr => exact { hs with dcr := nofun }
  | imr => exact { hs with imr := nofun }
  | localDmaLow | localDmaHigh => exact { hs with localDma := nofun }
  | rempktPtr => exact { hs with rempktPtr := nofun }
  | localpktPtr => exact { hs with localpktPtr := nofun }
  | addressCntHigh | addressCntLow => exact { hs with addressCnt := nofun }
  | mchash _ _ hrow => exact { hs with mchash := fun hno => Bool.noConfusion (hrow.symm.trans hno) }
  | reset =>
    exact { hs with
      pageStart := nofun, pageStop := nofun, boundPtr := nofun, txPageStart := nofun, txBytes := nofun
      rcr := nofun, tcr := nofun, dcr := nofun, imr := nofun
      localDma := nofun, rempktPtr := nofun, localpktPtr := nofun, addressCnt := nofun }
  | returned | remoteBytesLow | remoteBytesHigh | currPage | remoteStartLow | remoteStartHigh => exact { hs with }

/-- CURR is moved by an accepted frame too, so a CR write can change it (R233, R252). -/
theorem exec_currPage {i : Instr} {s t : State} (h : exec i s = .next t)
    (hi : (i.pattern == 0xA7#8 || i.pattern == 0x1F#8 || i.pattern == 0x80#8) = false) : t.currPage = s.currPage := by
  cases exec_effect h with
  | command | currPage | reset => exact absurd hi nofun
  | isr => rw [lowerIrq_eq, clearIsr_eq]
  | dataRead | dataWrite =>
    rw [dmaAdvance_eq]
    rfl
  | returned | ignored | pageStart | pageStop | boundPtr | txPageStart | txBytesLow | txBytesHigh | remoteBytesLow
  | remoteBytesHigh | rcr | tcr | dcr | imr | localDmaLow | localDmaHigh | rempktPtr | localpktPtr
  | addressCntHigh | addressCntLow | remoteStartLow | remoteStartHigh | mchash => rfl

/-! ### Rows of single registers -/

/-- A read row returns the byte its register is known to hold. -/
theorem readsAs.exec_of_value {p m : Byte} {i : Instr} {value : State → Byte} (h : readsAs p m i value) {s : State}
    {b : Byte} (hb : value s = b) : exec i s = .next { s with readData := some b } := hb ▸ h.2 s

/-- Settles O31: every one of these rows answers the state it started from. -/
theorem reservedWritesChangeNothing : Obligations.ReservedWritesChangeNothing := by
  iterate 25 refine ⟨writesAs_of_row (fun _ => rfl) rfl (fun _ => rfl) fun _ _ => rfl, ?_⟩
  intro v s t h
  cases h
  rfl

/-- A ring that starts at page 0 is no ring, and refuses every frame (R221). -/
theorem receive_of_pageStart_zero {s : State} (h : s.pageStart = 0#8) (bytes : List Byte) : receive bytes s = s := by
  simp [receive, acceptsFrame, h]

/-- Settles O18: the rows one by one; of all effects only those of the named rows and a reset write the pointers
(`exec_keepsRegisters`, `exec_currPage`), and the engines write CURR alone. -/
theorem ringPointersReadAndWrite : Obligations.RingPointersReadAndWrite := by
  iterate 5 refine ⟨writesAs_of_row (fun _ => rfl) rfl (fun _ => rfl) fun _ _ => rfl, ?_⟩
  iterate 5 refine ⟨readsAs_of_row rfl rfl rfl fun _ => rfl, ?_⟩
  exact ⟨fun i s t h => (exec_keepsRegisters h).pageStart, fun i s t h => (exec_keepsRegisters h).pageStop,
    fun i s t h => (exec_keepsRegisters h).boundPtr, fun i s t h => (exec_keepsRegisters h).txPageStart,
    fun i s t => exec_currPage, keptByEngines_of_engineFields fun _ => rfl, keptByEngines_of_engineFields fun _ => rfl,
    keptByEngines_of_engineFields fun _ => rfl, keptByEngines_of_engineFields fun _ => rfl,
    fun s bytes h => receive_of_pageStart_zero h bytes⟩

/-- Settles O25: the rows one by one; no access and no engine writes `physaddr`, which only an init binds. -/
theorem stationAddressIsReadOnly : Obligations.StationAddressIsReadOnly := by
  iterate 6 refine ⟨readsAs_of_row rfl rfl rfl fun _ => rfl, ?_⟩
  iterate 6 refine ⟨writesAs_of_row (fun _ => rfl) rfl (fun _ => rfl) fun _ _ => rfl, ?_⟩
  exact ⟨fun i s t h _ => (exec_keepsRegisters h).physaddr, keptByEngines_of_engineFields fun _ => rfl⟩

/-! ### Registers written by halves (R103) -/

theorem eq_append_of_halves {w : Word} {low high : Byte} (hhigh : highByte w = high) (hlow : lowByte w = low) :
    w = high ++ low := by
  rw [← hhigh, ← hlow, highByte_append_lowByte]

/-- Both halves written, in either order, are the whole register. -/
theorem setHighByte_setLowByte_eq_append (w : Word) (low high : Byte) :
    setHighByte (setLowByte w low) high = high ++ low := eq_append_of_halves (by simp) (by simp)

theorem setLowByte_setHighByte_eq_append (w : Word) (low high : Byte) :
    setLowByte (setHighByte w high) low = high ++ low := eq_append_of_halves (by simp) (by simp)

/-- Settles O19: each row replaces one half, and no other access and no engine writes `tx_bytes`. -/
theorem transmitCountIsWrittenByHalves : Obligations.TransmitCountIsWrittenByHalves := by
  iterate 2 refine ⟨writesAs_of_row (fun _ => rfl) rfl (fun _ => rfl) fun _ _ => rfl, ?_⟩
  refine ⟨fun i s t h => (exec_keepsRegisters h).txBytes, keptByEngines_of_engineFields fun _ => rfl,
    fun s t u low high ht hu => ?_⟩
  cases ht
  cases hu
  exact setHighByte_setLowByte_eq_append s.txBytes low high

/-- Settles O20: each half write loads `remote_dma` from the whole of `remote_start`, so after both halves the two hold
the same word. -/
theorem remoteStartLoadsTheRemoteAddress : Obligations.RemoteStartLoadsTheRemoteAddress := by
  iterate 2 refine ⟨writesAs_of_row (fun _ => rfl) rfl (fun _ => rfl) fun _ _ => rfl, ?_⟩
  iterate 2 refine ⟨readsAs_of_row rfl rfl rfl fun _ => rfl, ?_⟩
  rintro s t u low high (⟨ht, hu⟩ | ⟨ht, hu⟩) <;> cases ht <;> cases hu
  case inl =>
    have hword := setHighByte_setLowByte_eq_append s.remoteStart low high
    exact ⟨hword, hword, rfl⟩
  case inr =>
    have hword := setLowByte_setHighByte_eq_append s.remoteStart low high
    exact ⟨hword, hword, rfl⟩

/-- A data-port write is dropped while the count is 0 (R203). -/
theorem dataPortWrite_of_count_zero {s : State} (h : s.remoteBytes = 0#16) (v : Byte) : dataPortWrite v s = .next s :=
  if_pos h

/-- Settles O21: each row replaces one half and writes nothing else, and every data-port write is dropped at count 0. -/
theorem remoteCountIsWrittenByHalves : Obligations.RemoteCountIsWrittenByHalves := by
  iterate 2 refine ⟨writesAs_of_row (fun _ => rfl) rfl (fun _ => rfl) fun _ _ => rfl, ?_⟩
  refine ⟨fun s v hcount i hi => ?dropped, fun s t u low high ht hu => ?halves⟩
  case dropped => exact (exec_of_mem_dataWrites hi s).trans (dataPortWrite_of_count_zero hcount v)
  case halves =>
    cases ht
    cases hu
    exact setHighByte_setLowByte_eq_append s.remoteBytes low high

/-- Settles O28: the rows one by one; only the two half writes and a reset, which leaves 0, write `local_dma`. -/
theorem localDmaIsHeldOnly : Obligations.LocalDmaIsHeldOnly := by
  have hlow : readsAs 0x01 0xFF .rdP0Clda0 fun s => lowByte s.localDma := readsAs_of_row rfl rfl rfl fun _ => rfl
  have hhigh : readsAs 0x02 0xFF .rdP0Clda1 fun s => highByte s.localDma := readsAs_of_row rfl rfl rfl fun _ => rfl
  refine ⟨hlow, hhigh, ?_⟩
  iterate 2 refine ⟨writesAs_of_row (fun _ => rfl) rfl (fun _ => rfl) fun _ _ => rfl, ?_⟩
  refine ⟨fun i s t h => (exec_keepsRegisters h).localDma, keptByEngines_of_engineFields fun _ => rfl,
    fun s t h => ?reset, fun s t u low high ht hu => ?readBack⟩
  case reset =>
    cases h
    rfl
  case readBack =>
    cases ht
    cases hu
    exact ⟨hlow.exec_of_value (by simp), hhigh.exec_of_value (by simp)⟩

/-- Settles O29: the rows one by one; only the write rows and a reset, which leaves 0, write these registers. -/
theorem pageTwoPointersAreHeldOnly : Obligations.PageTwoPointersAreHeldOnly := by
  iterate 4 refine ⟨readsAs_of_row rfl rfl rfl fun _ => rfl, ?_⟩
  iterate 4 refine ⟨writesAs_of_row (fun _ => rfl) rfl (fun _ => rfl) fun _ _ => rfl, ?_⟩
  refine ⟨fun i s t h => (exec_keepsRegisters h).rempktPtr, fun i s t h => (exec_keepsRegisters h).localpktPtr,
    fun i s t h => (exec_keepsRegisters h).addressCnt, keptByEngines_of_engineFields fun _ => rfl,
    keptByEngines_of_engineFields fun _ => rfl, keptByEngines_of_engineFields fun _ => rfl, fun s t h => ?_⟩
  cases h
  exact ⟨rfl, rfl, rfl⟩

/-! ### Configuration and status registers -/

/-- Settles O22: the rows one by one; what a write stored reads back less its reserved bits (`toByte_ofByte`). -/
theorem configurationRegistersDropReservedBits : Obligations.ConfigurationRegistersDropReservedBits := by
  have hrcr : readsAs 0x4C 0xFF .rdP2Rcr fun s => s.rcr.toByte := readsAs_of_row rfl rfl rfl fun _ => rfl
  have htcr : readsAs 0x4D 0xFF .rdP2Tcr fun s => s.tcr.toByte := readsAs_of_row rfl rfl rfl fun _ => rfl
  have hdcr : readsAs 0x4E 0xFF .rdP2Dcr fun s => s.dcr.toByte := readsAs_of_row rfl rfl rfl fun _ => rfl
  have himr : readsAs 0x4F 0xFF .rdP2Imr fun s => s.imr.toByte := readsAs_of_row rfl rfl rfl fun _ => rfl
  iterate 4 refine ⟨writesAs_of_row (fun _ => rfl) rfl (fun _ => rfl) fun _ _ => rfl, ?_⟩
  refine ⟨hrcr, htcr, hdcr, himr, fun v s t h => ?rcr, fun v s t h => ?tcr, fun v s t h => ?dcr, fun v s t h => ?imr,
    fun i s t h => (exec_keepsRegisters h).rcr, fun i s t h => (exec_keepsRegisters h).tcr,
    fun i s t h => (exec_keepsRegisters h).dcr, fun i s t h => (exec_keepsRegisters h).imr,
    hdcr.exec_of_value (by decide)⟩ <;> cases h
  case rcr => exact hrcr.exec_of_value (Rcr.toByte_ofByte v)
  case tcr => exact htcr.exec_of_value (Tcr.toByte_ofByte v)
  case dcr => exact hdcr.exec_of_value (Dcr.toByte_ofByte v)
  case imr => exact himr.exec_of_value (Imr.toByte_ofByte v)

/-- An ISR write lowers `irq_level` where the bits it leaves, under the mask of IMR, are 0 (R275). -/
theorem acknowledge_irqLevel (v : Byte) (s : State) :
    (lowerIrq (clearIsr v s)).irqLevel =
      if s.isr.toByte &&& ~~~v &&& s.imr.toByte &&& 0x7F#8 = 0#8 then false else s.irqLevel := by
  have hmasked : maskedStatus (clearIsr v s) = s.isr.toByte &&& ~~~v &&& s.imr.toByte &&& 0x7F#8 :=
    congrArg (· &&& s.imr.toByte &&& 0x7F#8) (Isr.toByte_ofByte _)
  rw [lowerIrq, hmasked, apply_ite State.irqLevel]
  rfl

/-- Settles O23: `wrIsr_toByte` gives the bits that stay, `acknowledge_irqLevel` the level, and an ISR write writes no
other field. -/
theorem isrWriteClearsAndLowers : Obligations.IsrWriteClearsAndLowers := by
  have hread : readsAs 0x07 0xFF .rdP0Isr fun s => s.isr.toByte := readsAs_of_row rfl rfl rfl fun _ => rfl
  have hwrite : writesAs 0x87 0xFF .wrP0Isr fun v s => lowerIrq (clearIsr v s) :=
    writesAs_of_row (fun _ => rfl) rfl (fun _ => rfl) fun _ _ => rfl
  refine ⟨hread, hwrite.1, fun v s =>
    ⟨lowerIrq (clearIsr v s), rfl, wrIsr_toByte rfl, acknowledge_irqLevel v s, ?frame⟩, hread.exec_of_value (by decide)⟩
  case frame => rw [lowerIrq_eq, clearIsr_eq]

/-- `t` holds every status bit of TSR and RSR that an engine sets and `s` holds (R256, R238). -/
structure KeepsStatus (s t : State) : Prop where
  txOk : s.tsr.txOk = true → t.tsr.txOk = true
  rxOk : s.rsr.rxOk = true → t.rsr.rxOk = true
  rxMbit : s.rsr.rxMbit = true → t.rsr.rxMbit = true

theorem KeepsStatus.of_eq {s t : State} (htsr : t.tsr = s.tsr) (hrsr : t.rsr = s.rsr) : KeepsStatus s t := by
  constructor <;> simp [htsr, hrsr]

section
variable {r s : State} (h : KeepsStatus r s)
include h

theorem KeepsStatus.sendPacketCommand : KeepsStatus r (sendPacketCommand s) := by
  rw [sendPacketCommand_eq]
  exact { h with }

theorem KeepsStatus.irqProbe : KeepsStatus r (irqProbe s) := by
  rw [irqProbe_eq]
  exact { h with }

theorem KeepsStatus.raisePktTx : KeepsStatus r (raisePktTx s) := by
  rw [raisePktTx_eq]
  exact { h with }

theorem KeepsStatus.externalTransmit : KeepsStatus r (externalTransmit s) := by
  cases hd : s.cfg.txDeferred with
  | false =>
    rw [externalTransmit_eq_sync s hd]
    exact { h with txOk := fun _ => rfl }
  | true =>
    rw [externalTransmit_eq_deferred s hd]
    exact { h with }

/-- An accepted frame sets RSR bits and clears none (R238). -/
theorem KeepsStatus.receive (bytes : List Byte) : KeepsStatus r (receive bytes s) := by
  obtain ⟨-, hr⟩ | ⟨-, hr⟩ := receive_cases s bytes
  · rwa [hr]
  · rw [hr, storeFrame_eq]
    exact { h with
      rxOk := fun _ => rfl
      rxMbit := fun hm => by simp [h.rxMbit hm] }

end

/-- Of all accesses, only a reset clears a status bit that an engine has set (R116, R124). -/
theorem exec_keepsStatus {i : Instr} {s t : State} (h : exec i s = .next t) (hi : i ≠ .rdReset) : KeepsStatus s t := by
  cases exec_effect h with
  | reset => exact absurd rfl hi
  | command v u hu =>
    refine command_induction (fun _ => .sendPacketCommand) (fun _ => .externalTransmit) (fun _ b h => h.receive b)
      (fun _ => .raisePktTx) (fun _ => .irqProbe) hu ?_
    rw [storeCommand_eq]
    exact .of_eq rfl rfl
  | isr =>
    rw [lowerIrq_eq, clearIsr_eq]
    exact .of_eq rfl rfl
  | dataRead | dataWrite =>
    rw [dmaAdvance_eq]
    exact .of_eq rfl rfl
  | returned | ignored | pageStart | pageStop | boundPtr | txPageStart | txBytesLow | txBytesHigh | remoteBytesLow
  | remoteBytesHigh | rcr | tcr | dcr | imr | currPage | localDmaLow | localDmaHigh | rempktPtr | localpktPtr
  | addressCntHigh | addressCntLow | remoteStartLow | remoteStartHigh | mchash => exact .of_eq rfl rfl

/-- With `tx_ok` alone ever set, TSR reads 0 outside bit 0 (R26). -/
theorem State.Inv.tsr_toByte {s : State} (h : s.Inv) : s.tsr.toByte &&& 0xFE#8 = 0#8 := by
  rw [h.tsrUnset]
  cases s.tsr.txOk <;> decide

/-- With `rx_ok` and `rx_mbit` alone ever set, RSR reads 0 outside bits 0 and 5 (R28). -/
theorem State.Inv.rsr_toByte {s : State} (h : s.Inv) : s.rsr.toByte &&& 0xDE#8 = 0#8 := by
  rw [h.rsrUnset]
  cases s.rsr.rxOk <;> cases s.rsr.rxMbit <;> decide

/-- Settles O24: the rows one by one; the invariant says what reads 0, and status bits stay set over every access
(`exec_keepsStatus`) and every engine. -/
theorem statusAndCounterReads : Obligations.StatusAndCounterReads := by
  iterate 7 refine ⟨readsAs_of_row rfl rfl rfl fun _ => rfl, ?_⟩
  refine ⟨fun s hs => ?zeros, fun i s t h hi => ?accesses, fun s bytes => ?engines⟩
  case zeros =>
    obtain ⟨hncr, hfifo, hcnt0, hcnt1, hcnt2⟩ := hs.countersZero
    exact ⟨hncr, hfifo, hcnt0, hcnt1, hcnt2, hs.tsr_toByte, hs.rsr_toByte⟩
  case accesses =>
    obtain ⟨htx, hrx, hmulti⟩ := exec_keepsStatus h hi
    exact ⟨htx, hrx, hmulti⟩
  case engines =>
    obtain ⟨-, hrx, hmulti⟩ := (KeepsStatus.of_eq (s := s) rfl rfl).receive bytes
    exact ⟨by rw [receive_eq], by rw [txComplete_eq], hrx, hmulti, by rw [txComplete_eq]⟩

/-! ### The multicast table -/

/-- Settles O26: the rows one by one; a reset keeps the table, an init zeroes it, and no engine writes it. -/
theorem multicastTableReads : Obligations.MulticastTableReads := by
  iterate 8 refine ⟨readsAs_of_row rfl rfl rfl fun _ => rfl, ?_⟩
  refine ⟨fun s t h => ?reset, fun s mac irq => ?init, fun i s t h => (exec_keepsRegisters h).mchash,
    keptByEngines_of_engineFields fun _ => rfl⟩
  case reset =>
    cases h
    rfl
  case init => rw [initBlock_eq]

/-- Hash index `i` is bit `i % 8` of byte `i / 8` of the table (R231). -/
theorem hashBit_eq (table : Vector Byte 8) (i : BitVec 6) :
    hashBit table i = (table[i.toNat / 8]'(by omega)).getLsbD (i.toNat % 8) := by
  have hbyte : (i.extractLsb' 3 3).toNat = i.toNat / 8 := by
    rw [BitVec.extractLsb'_toNat, Nat.shiftRight_eq_div_pow]
    omega
  have hbit : (i.extractLsb' 0 3).toNat = i.toNat % 8 := by
    rw [BitVec.extractLsb'_toNat, Nat.shiftRight_zero]
  simp only [hashBit, hbyte, hbit]

/-- Settles O27: the rows one by one, and a table with one byte replaced is looked up by `hashBit_eq`. -/
theorem multicastTableWrites : Obligations.MulticastTableWrites := by
  iterate 8 refine ⟨writesAs_of_row (fun _ => rfl) rfl (fun _ => rfl) fun _ _ => rfl, ?_⟩
  intro table k v i
  rw [hashBit_eq, hashBit_eq, Vector.getElem_set]
  by_cases hk : i.toNat / 8 = k.val
  · rw [if_pos hk, if_pos hk.symm]
  · rw [if_neg hk, if_neg (Ne.symm hk)]

/-! ### A ring without pages -/

/-- A ring with no free page accepts no frame (R222, R224). -/
theorem acceptsFrame_of_freePages_nonpos {s : State} (h : freePages s ≤ 0) (bytes : List Byte) :
    acceptsFrame s bytes = false := by
  have hfull : freePages s ≤ pagesRequired bytes.length := by omega
  simp [acceptsFrame, hfull]

/-- Below `bound_ptr` the free pages lie between the two pointers (R223). -/
theorem freePages_of_below {s : State} (h : s.currPage.toNat < s.boundPtr.toNat) :
    freePages s = (s.boundPtr.toNat : Int) - s.currPage.toNat := if_pos (by exact_mod_cast h)

/-- From `bound_ptr` on they are the pages of the ring less those between the pointers (R223). -/
theorem freePages_of_not_below {s : State} (h : s.boundPtr.toNat ≤ s.currPage.toNat) :
    freePages s = ((s.pageStop.toNat : Int) - s.pageStart.toNat) - ((s.currPage.toNat : Int) - s.boundPtr.toNat) :=
  if_neg (by omega)

/-- Acceptance looks at `page_stop` through the free pages alone (R220). -/
theorem acceptsFrame_setPageStop {s : State} {v : Byte} (h : freePages (s.setPageStop v) = freePages s)
    (bytes : List Byte) : acceptsFrame (s.setPageStop v) bytes = acceptsFrame s bytes := by
  simp only [acceptsFrame, h]
  rfl

/-- Settles O58: which of its two cases `freePages` is in decides whether `page_stop` is looked at. -/
theorem ringWithoutPagesRefusesFrames : Obligations.RingWithoutPagesRefusesFrames := by
  refine fun v s => ⟨s.setPageStop v, rfl, rfl, fun hempty hcurr => ?refused, fun hcurr => ?unread⟩
  case refused =>
    have hfree : freePages (s.setPageStop v) ≤ 0 := by
      rw [freePages_of_not_below (s := s.setPageStop v) hcurr]
      simp only [State.setPageStop_pageStop, State.setPageStop_pageStart, State.setPageStop_currPage,
        State.setPageStop_boundPtr]
      omega
    refine ⟨hfree, fun bytes => ?_⟩
    have hrefused := acceptsFrame_of_freePages_nonpos hfree bytes
    exact ⟨hrefused, if_neg (by simp [hrefused])⟩
  case unread =>
    have hfree := freePages_of_below (s := s.setPageStop v) hcurr
    exact ⟨hfree, acceptsFrame_setPageStop (hfree.trans (freePages_of_below hcurr).symm)⟩

/-! ### The command register -/

/-- The fields of CR share no bit, so joining them is the disjunction of the fields in their places (R21, R111). -/
theorem Cr.toByte_eq_or (r : Cr) :
    r.toByte =
      (r.pgsel.setWidth 8 <<< 6) ||| (r.rdmaCmd.setWidth 8 <<< 3) ||| ((BitVec.ofBool r.txPacket).setWidth 8 <<< 2) |||
        ((BitVec.ofBool r.start).setWidth 8 <<< 1) ||| (BitVec.ofBool r.stop).setWidth 8 := by
  obtain ⟨pgsel, rdmaCmd, txPacket, start, stop⟩ := r
  revert pgsel rdmaCmd txPacket start stop
  decide

/-- Settles O10: RD_CR returns CR assembled (`Cr.toByte_eq_or`), and the invariant holds the other two clauses. -/
theorem commandReadAssemblesItsFields : Obligations.CommandReadAssemblesItsFields := by
  have hread : readsAs 0x00 0x9F .rdCr fun s => s.cr.toByte := readsAs_of_row rfl rfl rfl fun _ => rfl
  refine ⟨?row, fun s hs => ⟨hs.command, hs.transmitting, fun hd => hs.transmitting.trans (hs.synchronous hd)⟩,
    hread.exec_of_value (by decide)⟩
  case row => simpa only [Cr.toByte_eq_or] using hread

/-- The state in which a CR write starts to transmit: its fields stored, the send-packet command done (R112). -/
def commandStored (v : Byte) (s : State) : State := sendPacketCommand (storeCommand (coerceCommand v) s)

theorem exec_wrCr (v : Byte) (s : State) :
    exec (.wrCr v) s = andThen (transmitIfAsked v (commandStored v s)) irqProbe := rfl

/-- Settles O11: the procedure is the model's own, with what `storeCommand` writes written out. -/
theorem commandWriteRunsItsProcedure : Obligations.CommandWriteRunsItsProcedure := by
  refine ⟨fun k v hk => decodeAccess_of_and_mask ?row (.inr rfl), fun v s => ?procedure⟩
  case row =>
    rw [Instr.mask_of_pattern (p := 0x80) rfl]
    exact hk
  case procedure =>
    obtain ⟨-, -, -, hstart, hstop⟩ := coerceCommand_fields v
    rw [exec_wrCr, commandStored, storeCommand_eq, hstart, hstop]
    rfl

/-- Storing the fields and the send-packet command write CR, `ISR.reset` and the remote-DMA registers (R112, R208). -/
theorem commandStored_eq (v : Byte) (s : State) :
    commandStored v s =
      { s with
        isr := { s.isr with reset := s.isr.reset || v.getLsbD 0 }
        cr :=
          { pgsel := v.extractLsb' 6 2
            rdmaCmd := if v.extractLsb' 3 3 = 0#3 then 4#3 else v.extractLsb' 3 3
            txPacket := s.cr.txPacket
            start := v.getLsbD 1
            stop := v.getLsbD 0 }
        remoteStart := (commandStored v s).remoteStart
        remoteDma := (commandStored v s).remoteDma
        remoteBytes := (commandStored v s).remoteBytes } := by
  rw [commandStored, sendPacketCommand_eq, storeCommand_coerceCommand]

/-- A CR write completes unless it starts an external transmission while one is pending (R258). -/
theorem wrCr_next {v : Byte} {s : State} (h : v.getLsbD 2 = false ∨ s.tcr.loopCntl ≠ 0#2 ∨ s.txPending = false) :
    ∃ t, exec (.wrCr v) s = .next t := by
  suffices hu : ∃ u, transmitIfAsked v (commandStored v s) = .next u by
    obtain ⟨u, hu⟩ := hu
    exact ⟨irqProbe u, andThen_eq_next.2 ⟨u, hu, rfl⟩⟩
  have htcr : (commandStored v s).tcr = s.tcr := by rw [commandStored_eq]
  have hpending : (commandStored v s).txPending = s.txPending := by rw [commandStored_eq]
  rw [← htcr, ← hpending] at h
  unfold transmitIfAsked
  split
  · next hasked =>
    obtain ⟨hmode, hbusy, -⟩ | ⟨-, -, hnext⟩ | ⟨-, hnext⟩ | ⟨-, -, hnext⟩ := transmitStart_cases (commandStored v s)
    · obtain hn | hn | hn := h
      · exact absurd (hasked.symm.trans hn) (by decide)
      · exact absurd hmode hn
      · exact absurd (hbusy.symm.trans hn) (by decide)
    · exact ⟨_, hnext⟩
    · exact ⟨_, hnext⟩
    · exact ⟨_, hnext⟩
  · exact ⟨_, rfl⟩

/-! #### What a CR write keeps once its fields are stored -/

/-- What every operation of a CR write keeps, `r` being the state with the fields stored: the fields, the status bits
that are never set, and the remote-DMA registers unless the command is send-packet (R208, R253 to R256). -/
structure KeepsCommand (r s : State) : Prop where
  cr : s.cr = { r.cr with txPacket := s.cr.txPacket }
  reset : s.isr.reset = r.isr.reset
  tsr : s.tsr = { r.tsr with txOk := s.tsr.txOk }
  rsr : s.rsr = { r.rsr with rxOk := s.rsr.rxOk, rxMbit := s.rsr.rxMbit }
  remote : r.cr.rdmaCmd ≠ 3#3 →
    s.remoteStart = r.remoteStart ∧ s.remoteDma = r.remoteDma ∧ s.remoteBytes = r.remoteBytes

theorem sendPacketCommand_of_ne {s : State} (h : s.cr.rdmaCmd ≠ 3#3) : sendPacketCommand s = s := if_neg h

section
variable {r s : State} (h : KeepsCommand r s)
include h

theorem KeepsCommand.sendPacketCommand : KeepsCommand r (sendPacketCommand s) := by
  have hremote : r.cr.rdmaCmd ≠ 3#3 → Machine.sendPacketCommand s = s := fun hr =>
    sendPacketCommand_of_ne (by rwa [h.cr])
  have hframe : KeepsCommand r { s with
      remoteStart := (Machine.sendPacketCommand s).remoteStart
      remoteDma := (Machine.sendPacketCommand s).remoteDma
      remoteBytes := (Machine.sendPacketCommand s).remoteBytes } :=
    { h with remote := fun hr => by simpa only [hremote hr] using h.remote hr }
  rwa [← sendPacketCommand_eq] at hframe

theorem KeepsCommand.irqProbe : KeepsCommand r (irqProbe s) := by
  rw [irqProbe_eq]
  exact { h with }

theorem KeepsCommand.raisePktTx : KeepsCommand r (raisePktTx s) := by
  rw [raisePktTx_eq]
  exact { h with }

theorem KeepsCommand.externalTransmit : KeepsCommand r (externalTransmit s) := by
  cases hd : s.cfg.txDeferred with
  | false =>
    rw [externalTransmit_eq_sync s hd]
    exact { h with cr := by rw [h.cr], tsr := by rw [h.tsr] }
  | true =>
    rw [externalTransmit_eq_deferred s hd]
    exact { h with cr := by rw [h.cr] }

theorem KeepsCommand.receive (bytes : List Byte) : KeepsCommand r (receive bytes s) := by
  obtain ⟨-, hr⟩ | ⟨-, hr⟩ := receive_cases s bytes
  · rwa [hr]
  · rw [hr, storeFrame_eq]
    exact { h with rsr := by rw [h.rsr] }

end

theorem wrCr_keepsCommand {v : Byte} {s t : State} (h : exec (.wrCr v) s = .next t) :
    KeepsCommand (storeCommand (coerceCommand v) s) t := by
  obtain ⟨u, hu, rfl⟩ := andThen_eq_next.1 h
  exact command_induction (fun _ => .sendPacketCommand) (fun _ => .externalTransmit) (fun _ b h => h.receive b)
    (fun _ => .raisePktTx) (fun _ => .irqProbe) hu ⟨rfl, rfl, rfl, rfl, fun _ => ⟨rfl, rfl, rfl⟩⟩

/-- What an access leaves as it was when it delivers no frame. -/
structure KeepsReceived (r s : State) : Prop where
  mem : s.mem = r.mem
  currPage : s.currPage = r.currPage
  rsr : s.rsr = r.rsr
  pktRx : s.isr.pktRx = r.isr.pktRx

section
variable {r s : State} (h : KeepsReceived r s)
include h

theorem KeepsReceived.irqProbe : KeepsReceived r (irqProbe s) := by
  rw [irqProbe_eq]
  exact { h with }

theorem KeepsReceived.externalTransmit : KeepsReceived r (externalTransmit s) := by
  cases hd : s.cfg.txDeferred with
  | false =>
    rw [externalTransmit_eq_sync s hd]
    exact { h with }
  | true =>
    rw [externalTransmit_eq_deferred s hd]
    exact { h with }

end

theorem commandStored_keepsReceived (v : Byte) (s : State) : KeepsReceived s (commandStored v s) := by
  rw [commandStored_eq]
  exact ⟨rfl, rfl, rfl, rfl⟩

/-- A CR write delivers a frame only in loopback mode 1, and then it is the transmit region (R252). -/
theorem wrCr_received {v : Byte} {s t : State} (h : exec (.wrCr v) s = .next t) :
    KeepsReceived s t ∨
    v.getLsbD 2 = true ∧ s.tcr.loopCntl = 1#2 ∧
      t.mem = (receive (txRegion (commandStored v s)) (commandStored v s)).mem := by
  obtain ⟨u, hu, rfl⟩ := andThen_eq_next.1 h
  have hstored := commandStored_keepsReceived v s
  have htcr : (commandStored v s).tcr = s.tcr := by rw [commandStored_eq]
  obtain ⟨rfl, -⟩ | ⟨-, -, -, rfl⟩ | ⟨hasked, hmode, rfl⟩ := transmitIfAsked_cases (s := commandStored v s) hu
  · exact .inl hstored.irqProbe
  · exact .inl hstored.externalTransmit.irqProbe
  · refine .inr ⟨hasked, htcr ▸ hmode, ?_⟩
    rw [irqProbe_eq, loopbackTransmit, raisePktTx_eq]

/-! #### Buffer reads after a CR write -/

/-- What writes engine fields alone moves neither the PROM nor the memory, so a buffer byte reads as before where its
memory byte does (R72). -/
theorem chipRead8_of_engineFields {s t : State} (h : withoutEngineFields t = withoutEngineFields s) (a : Int)
    (hmem : backed s.cfg a = true →
      Memory.read t.mem (a - s.cfg.memStart).toNat = Memory.read s.mem (a - s.cfg.memStart).toNat) :
    chipRead8 t a = chipRead8 s a :=
  chipRead8_congr (eq_of_engineFields (fun _ => rfl) h) (eq_of_engineFields (fun _ => rfl) h) a hmem

theorem txRegion_eq_transmitRegion (s : State) : txRegion s = transmitRegion s := by
  simp [txRegion, transmitRegion, pageAddr]

/-- What a loopback transmission works on is not written before it starts. -/
theorem commandStored_loopback (v : Byte) (s : State) :
    (commandStored v s).cfg = s.cfg ∧ (commandStored v s).mem = s.mem ∧
      txRegion (commandStored v s) = transmitRegion s ∧ ∀ n, ringAddr (commandStored v s) n = ringAddr s n := by
  rw [← txRegion_eq_transmitRegion, commandStored_eq]
  exact ⟨rfl, rfl, rfl, fun _ => rfl⟩

/-- A delivered frame leaves every memory byte alone that its ring positions do not name (R235, R236). -/
theorem receive_read {s : State} (hwf : Memory.wf s.mem) (frame : List Byte) {a : Int} (hb : backed s.cfg a = true)
    (hn : ∀ n, n < (padded frame).length + 8 → ringAddr s n ≠ a) :
    Memory.read (receive frame s).mem (a - s.cfg.memStart).toNat = Memory.read s.mem (a - s.cfg.memStart).toNat := by
  obtain ⟨-, hr⟩ | ⟨-, hr⟩ := receive_cases s frame
  · rw [hr]
  · rw [hr, storeFrame_eq]
    exact storedMemory_read s hwf frame hb hn

/-- A CR write leaves every buffer byte alone outside the ring positions of the frame it may loop back (R252). -/
theorem wrCr_chipRead8 {v : Byte} {s t : State} (h : exec (.wrCr v) s = .next t) (hwf : Memory.wf s.mem) {a : Int}
    (hn : ∀ n, n < (padded (transmitRegion s)).length + 8 → ringAddr s n ≠ a) : chipRead8 t a = chipRead8 s a := by
  refine chipRead8_of_engineFields (wrCr_engineFields h) a fun hb => ?_
  obtain hkept | ⟨-, -, hmem⟩ := wrCr_received h
  · rw [hkept.mem]
  · obtain ⟨hcfg, hstored, hregion, hring⟩ := commandStored_loopback v s
    have hread := receive_read (s := commandStored v s) (by rwa [hstored]) (transmitRegion s) (by rwa [hcfg])
      fun n hlt => (hring n).trans_ne (hn n hlt)
    rwa [hcfg, hstored, ← hregion, ← hmem] at hread

/-- Settles O12: `wrCr_next` says when the write completes, `wrCr_keepsCommand` what its operations keep of the fields
stored, `withoutEngineFields` which registers none of them writes, and `wrCr_received` where buffer bytes change. -/
theorem commandWriteCompletesWithItsFields : Obligations.CommandWriteCompletesWithItsFields := by
  intro v s hcompletes
  obtain ⟨t, ht⟩ := wrCr_next hcompletes
  obtain ⟨hcr, hreset, htsr, hrsr, hremote⟩ := wrCr_keepsCommand ht
  simp only [storeCommand_coerceCommand] at hcr hreset htsr hrsr hremote
  have hframe := wrCr_engineFields ht
  have hisr := exec_keeps_isr ht nofun nofun
  refine ⟨t, ht, ?fields, ?registers, ?status, fun hquiet => ?received, fun hcmd => ?remote,
    fun hwf a hn => wrCr_chipRead8 ht hwf hn⟩
  case fields =>
    rw [hcr]
    exact ⟨rfl, rfl, rfl, rfl, hreset⟩
  case registers => simpa only [withoutEngineFields, State.mk.injEq, true_and, and_true] using hframe
  case status => exact ⟨hisr.rxErr, hisr.txErr, hisr.overwrite, hisr.cntOflow, htsr, hrsr⟩
  case received =>
    obtain ⟨hmem, hcurr, hrsrKept, hrx⟩ | ⟨hasked, hmode, -⟩ := wrCr_received ht
    · exact ⟨fun a => chipRead8_of_engineFields hframe a fun _ => by rw [hmem], hcurr, hrsrKept, hrx⟩
    · obtain hn | hn := hquiet
      · exact absurd (hasked.symm.trans hn) (by decide)
      · exact absurd hmode hn
  case remote =>
    refine hremote ?_
    split
    · decide
    · exact hcmd

end Sys2Proof.Machine

/-! ## Remote DMA (O13, O14, O32 to O35) -/

namespace Sys2Proof.Machine

/-! ### The data port in the words of the spec (R201 to R205) -/

theorem dmaStep_cases (s : State) : dmaStep s = 1 ∨ dmaStep s = 2 := by
  rw [← accessLength_eq_dmaStep]
  exact accessLength_cases s

theorem ofNat_dmaNextCount_toNat (s : State) : (BitVec.ofNat 16 (dmaNextCount s)).toNat = dmaNextCount s := by
  have hbytes := s.remoteBytes.isLt
  rw [BitVec.toNat_ofNat, dmaNextCount, Nat.mod_eq_of_lt (by omega)]

theorem countedDown_accessLength (s : State) : countedDown (accessLength s) s = BitVec.ofNat 16 (dmaNextCount s) := by
  rw [countedDown, accessLength_eq_dmaStep, dmaNextCount]

@[simp] theorem dmaAdvanced_remoteBytes_toNat (s : State) : (dmaAdvanced s).remoteBytes.toNat = dmaNextCount s :=
  ofNat_dmaNextCount_toNat s

theorem ofNat_dmaNextCount_beq_zero (s : State) :
    (BitVec.ofNat 16 (dmaNextCount s) == 0#16) = decide (dmaNextCount s = 0) := by
  rw [Bool.eq_iff_iff, beq_iff_eq, decide_eq_true_iff, ← BitVec.toNat_inj, ofNat_dmaNextCount_toNat, BitVec.toNat_zero]

/-- The advance by the length of the access is the one the spec describes. -/
theorem dmaAdvance_accessLength (s : State) : dmaAdvance (accessLength s) s = dmaAdvanced s := by
  rw [dmaAdvance_eq, advancedAddress_accessLength, countedDown_accessLength, ofNat_dmaNextCount_beq_zero, dmaAdvanced]
  simp only [Bool.and_eq_true, decide_eq_true_eq]

theorem dataPortRead_eq (s : State) :
    dataPortRead s = .next ((dmaAdvanced s).setReadData (some (chipRead8 s s.remoteDma.toNat))) := by
  rw [dataPortRead, dmaAdvance_accessLength, returning]

/-- The advance neither reads nor writes the memory, so the byte may as well be stored after it. -/
theorem dmaAdvance_chipWrite8 (n : Nat) (s : State) (a : Int) (v : Byte) :
    dmaAdvance n (chipWrite8 s a v) = chipWrite8 (dmaAdvance n s) a v := by
  simp only [dmaAdvance_eq]
  rfl

theorem dataPortWrite_of_count_ne_zero {s : State} (h : s.remoteBytes ≠ 0#16) (v : Byte) :
    dataPortWrite v s = .next (chipWrite8 (dmaAdvanced s) s.remoteDma.toNat v) := by
  rw [dataPortWrite, if_neg h, dmaAdvance_chipWrite8, dmaAdvance_accessLength]

/-- Settles O32: every row runs one read, and its advance is `dmaAdvanced`. -/
theorem dataPortReadReturnsAndAdvances : Obligations.DataPortReadReturnsAndAdvances := fun s _ hi =>
  (exec_of_mem_dataReads hi s).trans (dataPortRead_eq s)

/-- Settles O33: every row runs one write, which stores by `chipWrite8`; a 16-bit address never leaves 0..0xFFFF. -/
theorem dataPortWriteStoresAndAdvances : Obligations.DataPortWriteStoresAndAdvances := by
  intro s v i hi
  rw [exec_of_mem_dataWrites hi]
  refine ⟨fun hcount => dataPortWrite_of_count_zero hcount v, fun hcount hwf =>
    ⟨_, dataPortWrite_of_count_ne_zero hcount v, rfl, memoryWrite8_wf hwf _ v, fun a => ?stored⟩⟩
  case stored =>
    have haddr := s.remoteDma.isLt
    refine (chipRead8_chipWrite8 (s := dmaAdvanced s) hwf _ a v).trans (if_congr ?_ rfl rfl)
    rw [backed_iff, show (dmaAdvanced s).cfg = s.cfg from rfl, memSize]
    omega

/-! ### Transfers (R211) -/

/-- `rdma_done` is set exactly when the count is 0. -/
def DoneAtZero (s : State) : Prop := s.isr.rdmaDone = true ↔ s.remoteBytes = 0#16

theorem remoteBytes_eq_zero_iff (s : State) : s.remoteBytes = 0#16 ↔ s.remoteBytes.toNat = 0 := by
  rw [← BitVec.toNat_inj, BitVec.toNat_zero]

/-- An access leaves `rdma_done` set exactly at count 0 if it was clear or so before: a count of 0
stays 0 (R205). -/
theorem doneAtZero_of_advanced {s t : State} (hbytes : t.remoteBytes = (dmaAdvanced s).remoteBytes)
    (hisr : t.isr = (dmaAdvanced s).isr) (h : s.isr.rdmaDone = false ∨ DoneAtZero s) : DoneAtZero t := by
  have hdone : t.isr.rdmaDone = (s.isr.rdmaDone || decide (dmaNextCount s = 0)) := by
    rw [hisr]
    rfl
  have hkeep : s.remoteBytes.toNat = 0 → dmaNextCount s = 0 := fun h0 => by rw [dmaNextCount, h0, Nat.zero_sub]
  rw [DoneAtZero, hdone, remoteBytes_eq_zero_iff, hbytes, dmaAdvanced_remoteBytes_toNat, Bool.or_eq_true,
    decide_eq_true_iff]
  refine or_iff_right_of_imp fun hset => ?_
  obtain hclear | hs := h
  · exact absurd (hset.symm.trans hclear) (by decide)
  · exact hkeep ((remoteBytes_eq_zero_iff s).1 (hs.1 hset))

/-- An access of a transfer completes with the advance's count and status, whether it reads or stores. -/
theorem dataAccess_next {a : Option Byte} {s : State} (h : a.isSome = true → s.remoteBytes ≠ 0#16) :
    ∃ t, exec (dataAccess a) s = .next t ∧ t.remoteBytes = (dmaAdvanced s).remoteBytes ∧
      t.isr = (dmaAdvanced s).isr := by
  cases a with
  | none => exact ⟨_, dataPortRead_eq s, rfl, rfl⟩
  | some v => exact ⟨_, dataPortWrite_of_count_ne_zero (h rfl) v, rfl, rfl⟩

theorem transfer_cons_of_next {a : Option Byte} {s t : State} (h : exec (dataAccess a) s = .next t)
    (rest : List (Option Byte)) :
    transfer (a :: rest) s = transfer rest t ∧ transferLengths (a :: rest) s = dmaStep s :: transferLengths rest t ∧
      (transferCounts (a :: rest) s → transferCounts rest t) := by
  simp only [transfer, transferLengths, transferCounts, h]
  exact ⟨trivial, trivial, And.right⟩

/-- A transfer counts down by its lengths, keeps `DoneAtZero`, and reaches it from a clear `rdma_done` (R211). -/
theorem transfer_counts (accesses : List (Option Byte)) (s : State) (h : transferCounts accesses s) :
    ∃ t, transfer accesses s = .next t ∧ (transferLengths accesses s).length = accesses.length ∧
      t.remoteBytes.toNat = s.remoteBytes.toNat - (transferLengths accesses s).sum ∧
      (DoneAtZero s → DoneAtZero t) ∧ (accesses ≠ [] → s.isr.rdmaDone = false → DoneAtZero t) := by
  induction accesses generalizing s with
  | nil => exact ⟨s, rfl, rfl, rfl, id, fun hne => absurd rfl hne⟩
  | cons a rest ih =>
    obtain ⟨u, hu, hbytes, hisr⟩ := dataAccess_next h.1
    obtain ⟨htransfer, hlengths, hcounts⟩ := transfer_cons_of_next hu rest
    obtain ⟨t, ht, hlen, hsum, hkeep, -⟩ := ih u (hcounts h)
    have hfirst := fun hs => hkeep (doneAtZero_of_advanced hbytes hisr hs)
    refine ⟨t, htransfer.trans ht, ?_, ?_, fun hs => hfirst (.inr hs), fun _ hs => hfirst (.inl hs)⟩
    · rw [hlengths, List.length_cons, hlen, List.length_cons]
    · rw [hlengths, List.sum_cons, hsum, hbytes, dmaAdvanced_remoteBytes_toNat, dmaNextCount, Nat.sub_sub]

/-- Settles O34: the first access leaves `rdma_done` set exactly at count 0, and every later one keeps it so. -/
theorem transferCountsItsLengths : Obligations.TransferCountsItsLengths := by
  intro accesses s hne hcounts
  obtain ⟨t, ht, hlen, hsum, -, hdone⟩ := transfer_counts accesses s hcounts
  exact ⟨t, ht, hlen, hsum, hdone hne⟩

/-! ### The PROM read out by remote DMA (R39, R212) -/

/-- Short of the end of the PROM window the address only adds the length: the one page address below 32
is 0, and the sum is above it (R204). -/
theorem dmaNextAddress_of_window {s : State} (h : s.remoteDma.toNat + dmaStep s < 32) :
    dmaNextAddress s = s.remoteDma.toNat + dmaStep s := by
  have hstep := dmaStep_cases s
  rw [dmaNextAddress, Nat.mod_eq_of_lt (by omega)]
  exact if_neg (by omega)

/-- A read inside the PROM window returns its byte and moves the address and the count by its length; the next access
has the same length and finds the same buffer bytes. -/
theorem dataPortRead_of_window {s : State} (h : s.remoteDma.toNat + dmaStep s < 32) :
    ∃ t, exec .rdData10 s = .next t ∧ t.readData = some (chipRead8 s s.remoteDma.toNat) ∧
      t.remoteDma.toNat = s.remoteDma.toNat + dmaStep s ∧ t.remoteBytes.toNat = s.remoteBytes.toNat - dmaStep s ∧
      dmaStep t = dmaStep s ∧ chipRead8 t = chipRead8 s := by
  have haddr : (dmaAdvanced s).remoteDma.toNat = s.remoteDma.toNat + dmaStep s := by
    rw [dmaAdvanced, BitVec.toNat_ofNat, dmaNextAddress_of_window h, Nat.mod_eq_of_lt (by omega)]
  have hstep : dmaStep (dmaAdvanced s) = dmaStep s := by
    rw [dmaStep, haddr, dmaStep, show (dmaAdvanced s).dcr = s.dcr from rfl]
    exact if_congr (and_congr_right fun _ => iff_of_true h (by omega)) rfl rfl
  exact ⟨_, dataPortRead_eq s, rfl, haddr, dmaAdvanced_remoteBytes_toNat s, hstep, rfl⟩

/-- Reads inside the PROM window move the address and the count by their common length. -/
theorem transfer_reads_of_window {n : Nat} {s : State} (h : s.remoteDma.toNat + n * dmaStep s < 32) :
    ∃ t, transfer (List.replicate n none) s = .next t ∧ t.remoteDma.toNat = s.remoteDma.toNat + n * dmaStep s ∧
      t.remoteBytes.toNat = s.remoteBytes.toNat - n * dmaStep s := by
  induction n generalizing s with
  | zero => exact ⟨s, rfl, by simp, by simp⟩
  | succ n ih =>
    rw [Nat.succ_mul] at h ⊢
    obtain ⟨u, hu, -, haddr, hcount, hstep, -⟩ := dataPortRead_of_window (s := s) (by omega)
    obtain ⟨t, ht, hdma, hbytes⟩ := ih (s := u) (by rw [haddr, hstep]; omega)
    obtain ⟨htransfer, -⟩ := transfer_cons_of_next (a := none) hu (List.replicate n none)
    rw [haddr, hstep] at hdma
    rw [hcount, hstep] at hbytes
    exact ⟨t, htransfer.trans ht, by omega, by omega⟩

/-- Reads inside the PROM window return every byte, or every second one, by their common length. -/
theorem bytesRead_of_window {n : Nat} {s : State} (h : s.remoteDma.toNat + n * dmaStep s < 32) :
    bytesRead n s = (List.range' s.remoteDma.toNat n (dmaStep s)).map fun a : Nat => chipRead8 s a := by
  induction n generalizing s with
  | zero => rfl
  | succ n ih =>
    rw [Nat.succ_mul] at h
    obtain ⟨u, hu, hread, haddr, -, hstep, hchip⟩ := dataPortRead_of_window (s := s) (by omega)
    have hrest := ih (s := u) (by rw [haddr, hstep]; omega)
    rw [haddr, hstep, hchip] at hrest
    rw [List.range'_succ, List.map_cons, ← hrest, bytesRead, hu]
    simp only [hread, Option.toList_some, List.singleton_append]

/-- The PROM holds each address byte twice, then the signature byte (R39). -/
theorem promOf_address (p : Mac) {k : Nat} (h : k < 12) : (promOf p)[k] = p[k / 2] := by
  interval_cases k <;> rfl

theorem promOf_signature (p : Mac) {k : Nat} (hlo : 12 ≤ k) (hhi : k < 32) : (promOf p)[k] = 0x57#8 := by
  interval_cases k <;> rfl

section
variable {s : State} (h : s.Inv)
include h

theorem State.Inv.chipRead8_address {k : Nat} (hk : k < 12) : chipRead8 s (k : Int) = s.physaddr[k / 2] := by
  have hread := chipRead8_of_prom s (a := (k : Int)) (by omega)
  simp only [h.prom, Int.toNat_natCast] at hread
  exact hread.trans (promOf_address s.physaddr hk)

theorem State.Inv.chipRead8_signature {a : Int} (hlo : 12 ≤ a) (hhi : a < 32) : chipRead8 s a = 0x57#8 := by
  have hread := chipRead8_of_prom s (a := a) (by omega)
  simp only [h.prom] at hread
  exact hread.trans (promOf_signature s.physaddr (by omega) (by omega))

/-- Word mode skips the second copy of each byte (R201, R212). -/
theorem State.Inv.bytesRead_wordMode (hdma : s.remoteDma = 0#16) (hstep : dmaStep s = 2) :
    bytesRead 6 s = s.physaddr.toList := by
  rw [bytesRead_of_window (by rw [hdma, hstep]; decide), hdma, hstep]
  refine List.ext_getElem (by simp) fun i hi _ => ?_
  have hi6 : i < 6 := by simpa using hi
  have hread := h.chipRead8_address (k := 2 * i) (by omega)
  simpa using hread

theorem State.Inv.bytesRead_byteMode (hdma : s.remoteDma = 0#16) (hstep : dmaStep s = 1) :
    bytesRead 12 s = List.ofFn fun i : Fin 12 => s.physaddr[i.val / 2] := by
  rw [bytesRead_of_window (by rw [hdma, hstep]; decide), hdma, hstep]
  refine List.ext_getElem (by simp) fun i hi _ => ?_
  have hi12 : i < 12 := by simpa using hi
  have hread := h.chipRead8_address hi12
  simpa only [List.getElem_map, List.getElem_range', List.getElem_ofFn, BitVec.toNat_zero, Nat.zero_add, Nat.one_mul]
    using hread

end

/-- Settles O35: reads from address 0 stay in the PROM window, which shows the address bytes twice each. -/
theorem promReadsOutTheStationAddress : Obligations.PromReadsOutTheStationAddress := by
  intro s hs hdma hcount
  refine ⟨fun hmode => ?wordMode, fun hmode => ?byteMode, fun a hlo hhi => hs.chipRead8_signature hlo hhi⟩
  case wordMode =>
    have hstep : dmaStep s = 2 := by simp [dmaStep, hdma, hmode]
    obtain ⟨t, ht, haddr, hbytes⟩ := transfer_reads_of_window (n := 6) (s := s) (by rw [hdma, hstep]; decide)
    rw [hdma, hstep] at haddr
    rw [hcount, hstep] at hbytes
    exact ⟨hs.bytesRead_wordMode hdma hstep, t, ht, BitVec.eq_of_toNat_eq haddr, BitVec.eq_of_toNat_eq hbytes⟩
  case byteMode => exact hs.bytesRead_byteMode hdma (by simp [dmaStep, hmode])

/-! ### The send-packet command and the probe of a CR write (R207, R208) -/

theorem wrCr_of_noTransmit {v : Byte} (h : v.getLsbD 2 = false) (s : State) :
    exec (.wrCr v) s = .next (irqProbe (commandStored v s)) := by
  have hskip : transmitIfAsked v (commandStored v s) = .next (commandStored v s) := if_neg (by rw [h]; decide)
  rw [exec_wrCr, hskip, andThen]

theorem storeCommand_of_command {v : Byte} {c : BitVec 3} (hcmd : v.extractLsb' 3 3 = c) (hc : c ≠ 0#3) (s : State) :
    storeCommand (coerceCommand v) s =
      { s with
        isr := { s.isr with reset := s.isr.reset || v.getLsbD 0 }
        cr :=
          { pgsel := v.extractLsb' 6 2, rdmaCmd := c, txPacket := s.cr.txPacket, start := v.getLsbD 1
            stop := v.getLsbD 0 } } := by
  rw [storeCommand_coerceCommand, hcmd, if_neg hc]

theorem probeDue_iff (s : State) :
    probeDue s = true ↔ s.cr.rdmaCmd = 1#3 ∧ s.cr.start = true ∧ s.remoteBytes = 0#16 := by
  simp [probeDue, and_assoc]

/-- The probe writes none of the fields that make it due. -/
theorem probeDue_irqProbe (s : State) : probeDue (irqProbe s) = probeDue s := by
  rw [irqProbe_eq]
  rfl

theorem irqProbe_rdmaDone {s : State} (h : probeDue (irqProbe s) = true) : (irqProbe s).isr.rdmaDone = true := by
  rw [probeDue_irqProbe] at h
  rw [irqProbe_eq, h, Bool.or_true]

theorem irqProbe_of_due {s : State} (h : s.cr.rdmaCmd = 1#3 ∧ s.cr.start = true ∧ s.remoteBytes = 0#16) :
    irqProbe s = raiseRdmaDone s :=
  if_pos ((probeDue_iff s).2 h)

theorem irqProbe_of_ne {s : State} (h : s.cr.rdmaCmd ≠ 1#3) : irqProbe s = s :=
  if_neg fun hdue => h ((probeDue_iff s).1 hdue).1

theorem sendPacketCommand_of_none {s : State} (hmode : s.cfg.sendpktMode = .none) : sendPacketCommand s = s := by
  simp only [sendPacketCommand, hmode, ite_self]

theorem sendPacketCommand_of_ds8390 {s : State} (hcmd : s.cr.rdmaCmd = 3#3) (hmode : s.cfg.sendpktMode = .ds8390) :
    sendPacketCommand s =
      (loadRemoteStart (pageWord s.boundPtr) s).setRemoteBytes (chipRead16 s (pageAddr s.boundPtr + 2)) := by
  simp only [sendPacketCommand, hcmd, hmode, if_true]

/-- The length field of the packet at page `p`, from the header's third and fourth byte (R208). -/
theorem chipRead16_packetLength (s : State) (p : Byte) :
    chipRead16 s (pageAddr p + 2) = BitVec.ofNat 16
      ((chipRead8 s ((p.toNat * 256 + 2 : Nat) : Int)).toNat +
        256 * (chipRead8 s ((p.toNat * 256 + 3 : Nat) : Int)).toNat) := by
  have hlow : pageAddr p + 2 = ((p.toNat * 256 + 2 : Nat) : Int) := by
    rw [pageAddr]
    omega
  have hhigh : ((p.toNat * 256 + 2 : Nat) : Int) + 1 = ((p.toNat * 256 + 3 : Nat) : Int) := by omega
  rw [hlow, ← hhigh, ← chipRead16_toNat, BitVec.ofNat_toNat, BitVec.setWidth_eq]

/-- Settles O13: the probe looks at fields that a transmission between the store and the probe does not write
(`wrCr_keepsCommand`). -/
theorem probeRunsAtTheCommandWrite : Obligations.ProbeRunsAtTheCommandWrite := by
  refine ⟨fun s => ?probe, fun v s htx hcmd hstart hcount => ?write, fun v s t ht hcmd hstart hcount => ?everyWrite⟩
  case probe =>
    rw [irqProbe, raiseRdmaDone_eq]
    exact if_congr (probeDue_iff s) rfl rfl
  case write =>
    rw [wrCr_of_noTransmit htx, commandStored, storeCommand_of_command hcmd (by decide),
      sendPacketCommand_of_ne (show 1#3 ≠ 3#3 by decide), irqProbe_of_due, raiseRdmaDone_eq, hstart]
    · rfl
    · exact ⟨rfl, hstart, hcount⟩
  case everyWrite =>
    have hkept := wrCr_keepsCommand ht
    obtain ⟨u, -, rfl⟩ := andThen_eq_next.1 ht
    rw [storeCommand_of_command hcmd (by decide)] at hkept
    obtain ⟨-, -, hbytes⟩ := hkept.remote (show 1#3 ≠ 3#3 by decide)
    refine irqProbe_rdmaDone ((probeDue_iff _).2 ⟨?_, ?_, hbytes.trans hcount⟩)
    · rw [hkept.cr]
    · rw [hkept.cr]
      exact hstart

/-- Settles O14: with `rdma_cmd` = 3 the probe is not due, so the write ends with the send-packet command. -/
theorem sendPacketLoadsTheBoundaryPacket : Obligations.SendPacketLoadsTheBoundaryPacket := by
  intro v s htx hcmd
  have hcommand : (commandStored v s).cr.rdmaCmd = 3#3 := by
    rw [commandStored_eq, hcmd]
    rfl
  have hexec : exec (.wrCr v) s = .next (commandStored v s) := by
    rw [wrCr_of_noTransmit htx, irqProbe_of_ne (by rw [hcommand]; decide)]
  rw [commandStored, storeCommand_of_command hcmd (by decide)] at hexec
  refine ⟨fun hmode => ?ds8390, fun hmode => ?none⟩
  case ds8390 =>
    rw [hexec, sendPacketCommand_of_ds8390, chipRead16_packetLength]
    · rfl
    · rfl
    · exact hmode
  case none =>
    rw [hexec, sendPacketCommand_of_none]
    · rfl
    · exact hmode

end Sys2Proof.Machine

/-! ## The receive engine (O39 to O45) -/

namespace Sys2Proof.Machine

/-! ### Size and space (R221 to R225) -/

theorem pagesRequired_eq_iff (n pages : Nat) :
    pagesRequired n = pages ↔ n + 8 ≤ 256 * pages ∧ 256 * pages < n + 8 + 256 := by
  unfold pagesRequired
  omega

theorem pagesRequired_pos (n : Nat) : 0 < pagesRequired n := by
  unfold pagesRequired
  omega

/-- Frames shorter than the padded length take one page, as the padded frame does (R222). -/
theorem pagesRequired_of_short {n : Nat} (h : n ≤ 60) : pagesRequired n = 1 := by
  rw [pagesRequired_eq_iff]
  omega

theorem padded_length (frame : List Byte) : (padded frame).length = max frame.length 60 := by
  rw [padded, List.length_append, List.length_replicate]
  omega

/-- Header, padded frame and CRC slot lie in the pages of the frame (R222, R236). -/
theorem padded_length_add_eight_le (frame : List Byte) :
    (padded frame).length + 8 ≤ 256 * pagesRequired frame.length := by
  rw [padded_length, pagesRequired]
  omega

/-- The two cases of R223, on the pointers as naturals. -/
theorem freePages_eq (s : State) :
    freePages s =
      if s.currPage.toNat < s.boundPtr.toNat then (s.boundPtr.toNat : Int) - s.currPage.toNat
      else ((s.pageStop.toNat : Int) - s.pageStart.toNat) - ((s.currPage.toNat : Int) - s.boundPtr.toNat) := by
  split
  · exact freePages_of_below ‹_›
  · exact freePages_of_not_below (Nat.le_of_not_lt ‹_›)

/-- The conditions under which a frame is dropped, one for each check (R221, R224, R225, R227). -/
theorem acceptsFrame_eq_false_iff (s : State) (frame : List Byte) :
    acceptsFrame s frame = false ↔
      s.cr.stop = true ∨ s.pageStart = 0#8 ∨ freePages s ≤ (pagesRequired frame.length : Int) ∨
      (frame.length < 40 ∧ s.rcr.runtsOk = false) ∨ acceptsAddress s (destination (padded frame)) = false := by
  rw [acceptsFrame]
  split_ifs with hrefused hspace hrunt
  · simp only [Bool.or_eq_true, beq_iff_eq] at hrefused
    tauto
  · tauto
  · simp only [Bool.and_eq_true, decide_eq_true_eq, Bool.not_eq_true'] at hrunt
    tauto
  · simp only [Bool.or_eq_true, beq_iff_eq] at hrefused
    simp only [Bool.and_eq_true, decide_eq_true_eq, Bool.not_eq_true'] at hrunt
    tauto

theorem receive_of_dropped {s : State} {frame : List Byte} (h : acceptsFrame s frame = false) : receive frame s = s :=
  if_neg (by simp [h])

theorem receive_of_accepted {s : State} {frame : List Byte} (h : acceptsFrame s frame = true) :
    receive frame s = storeFrame frame s := if_pos h

/-- Settles O39: the checks one by one; the sizes are arithmetic on `pagesRequired`. -/
theorem droppedFrameChangesNothing : Obligations.DroppedFrameChangesNothing :=
  ⟨fun _ _ => receive_of_dropped, acceptsFrame_eq_false_iff, pagesRequired_eq_iff,
    fun _ h => (pagesRequired_of_short h.le).trans (pagesRequired_of_short le_rfl).symm, freePages_eq⟩

/-! ### The address filter (R227 to R232) -/

theorem mac_eq_iff (a b : Mac) : a = b ↔ ∀ k : Fin 6, a[k.val] = b[k.val] :=
  ⟨fun h _ => by rw [h], fun h => Vector.ext fun i hi => h ⟨i, hi⟩⟩

/-- Settles O40: the tests in the order of R227; a broadcast address is multicast, so it never passes as unicast. -/
theorem addressFilterAccepts : Obligations.AddressFilterAccepts := by
  intro s dst
  have hindex : (mcastIndex dst).toNat / 8 < s.mchash.toList.length := by
    rw [Vector.length_toList]
    omega
  rw [← mac_eq_iff, List.getD_eq_getElem _ _ hindex, Vector.getElem_toList, ← hashBit_eq, acceptsAddress]
  change _ ↔ _ ∨ (dst = broadcastAddress ∧ _) ∨ (dst ≠ broadcastAddress ∧ isMulticast dst = true ∧ _) ∨
    (isMulticast dst = false ∧ _)
  split_ifs with hpromisc hbroadcast hmulticast
  · simp [hpromisc]
  · have hmulticast : isMulticast broadcastAddress = true := rfl
    simp [hpromisc, hbroadcast, hmulticast]
  · simp [hpromisc, hbroadcast, hmulticast]
  · simp [hpromisc, hbroadcast, hmulticast]

/-! ### The multicast hash (R230) -/

theorem reverse_xor {w : Nat} (x y : BitVec w) : (x ^^^ y).reverse = x.reverse ^^^ y.reverse := by
  ext i hi
  simp only [BitVec.getElem_reverse, BitVec.getElem_xor, BitVec.getMsbD_xor]

theorem reverse_shiftLeft_one {w : Nat} (x : BitVec w) : (x <<< 1).reverse = x.reverse >>> 1 := by
  ext i hi
  rw [BitVec.getElem_reverse, BitVec.getMsbD_shiftLeft, BitVec.getElem_ushiftRight, BitVec.getLsbD_reverse,
    Nat.add_comm]

/-- Bit 0 of the shifted `crc` is 0, so the `| 1` of R230 makes its constant 0x04C11DB7. -/
theorem mcastCrcBit_eq (crc : BitVec 32) (bit : Bool) :
    mcastCrcBit crc bit = crc <<< 1 ^^^ if crc.getLsbD 31 ^^ bit then 0x04C11DB7#32 else 0#32 := by
  simp only [mcastCrcBit]
  split
  · ext i hi
    obtain rfl | hpos := Nat.eq_zero_or_pos i
    · simp
    · have hodd : (0x04C11DB7#32)[i] = (0x04C11DB6#32)[i] := by
        clear * - hpos
        revert i
        decide
      have hone : (1#32)[i] = false := by rw [BitVec.getElem_one, decide_eq_false (by omega)]
      simp only [BitVec.getElem_or, BitVec.getElem_xor, hodd, hone, Bool.or_false]
  · exact BitVec.xor_zero.symm

theorem reflectedCrcBit_eq (crc : BitVec 32) :
    reflectedCrcBit crc = crc >>> 1 ^^^ if crc.getLsbD 0 then 0xEDB88320#32 else 0#32 := by
  unfold reflectedCrcBit
  split
  · rfl
  · exact BitVec.xor_zero.symm

set_option maxRecDepth 2000 in
theorem reverse_crcConstant : (0x04C11DB7#32).reverse = 0xEDB88320#32 := by decide

/-- One bit of the two loops: the data `d` is joined to the reflected crc at once, and fed to the other bit by bit. -/
theorem reflectedCrcBit_reverse_xor (crc d : BitVec 32) :
    reflectedCrcBit (crc.reverse ^^^ d) = (mcastCrcBit crc (d.getLsbD 0)).reverse ^^^ d >>> 1 := by
  have hcarry : (crc.reverse ^^^ d).getLsbD 0 = (crc.getLsbD 31 ^^ d.getLsbD 0) := by
    rw [BitVec.getLsbD_xor, BitVec.getLsbD_reverse]
    rfl
  have hconst : (if crc.getLsbD 31 ^^ d.getLsbD 0 then 0x04C11DB7#32 else 0#32).reverse =
      if crc.getLsbD 31 ^^ d.getLsbD 0 then 0xEDB88320#32 else 0#32 := by
    rw [apply_ite BitVec.reverse, reverse_crcConstant, BitVec.reverse_eq_zero_iff.2 rfl]
  rw [reflectedCrcBit_eq, mcastCrcBit_eq, hcarry, reverse_xor, reverse_shiftLeft_one, hconst,
    BitVec.ushiftRight_xor_distrib, BitVec.xor_assoc, BitVec.xor_assoc, BitVec.xor_comm (d >>> 1)]

/-- After `n` bits the two loops differ by the data bits that the reversed loop has not been fed yet. -/
theorem reflectedCrc_bits (n : Nat) (crc d : BitVec 32) :
    (List.range n).foldl (fun c _ => reflectedCrcBit c) (crc.reverse ^^^ d) =
      ((List.range n).foldl (fun c i => mcastCrcBit c (d.getLsbD i)) crc).reverse ^^^ d >>> n := by
  induction n with
  | zero => simp
  | succ n ih =>
    rw [List.range_succ, List.foldl_concat, List.foldl_concat, ih, reflectedCrcBit_reverse_xor,
      BitVec.getLsbD_ushiftRight, Nat.add_zero, ← BitVec.shiftRight_add]

theorem reflectedCrcByte_reverse (crc : BitVec 32) (b : Byte) :
    reflectedCrcByte crc.reverse b = (mcastCrcByte crc b).reverse := by
  have hspent : b.setWidth 32 >>> 8 = 0#32 := by
    apply BitVec.eq_of_toNat_eq
    simp only [BitVec.toNat_ushiftRight, BitVec.toNat_setWidth, BitVec.toNat_zero, Nat.shiftRight_eq_div_pow]
    omega
  have hbits : mcastCrcByte crc b =
      (List.range 8).foldl (fun c i => mcastCrcBit c ((b.setWidth 32).getLsbD i)) crc :=
    List.foldl_ext _ _ _ fun c i hi => by
      rw [BitVec.getLsbD_setWidth, decide_eq_true ((List.mem_range.1 hi).trans (by decide)), Bool.true_and]
  rw [reflectedCrcByte, reflectedCrc_bits, hspent, BitVec.xor_zero, hbits]

/-- The loops over whole addresses keep reversed values, as both start from all ones. -/
theorem mcastCrc_reverse (dst : Mac) : (mcastCrc dst).reverse = reflectedCrc dst := by
  have hstart : (BitVec.allOnes 32).reverse = BitVec.allOnes 32 := by
    ext i hi
    rw [BitVec.getElem_reverse, BitVec.getMsbD_allOnes, BitVec.getElem_allOnes, decide_eq_true hi]
  refine (List.foldl_hom BitVec.reverse reflectedCrcByte_reverse).symm.trans ?_
  rw [show 0xFFFFFFFF#32 = BitVec.allOnes 32 from rfl, hstart]
  rfl

theorem mcastIndex_toNat (dst : Mac) : (mcastIndex dst).toNat = (mcastCrc dst).toNat / 2 ^ 26 := by
  rw [mcastIndex, BitVec.extractLsb'_toNat, Nat.shiftRight_eq_div_pow]
  omega

set_option maxRecDepth 8000 in
/-- Settles O41: the two loops keep reversed values bit by bit, and so over all bytes; the examples are computed. -/
theorem multicastHashIsTheReflectedCrc : Obligations.MulticastHashIsTheReflectedCrc :=
  ⟨fun dst => ⟨mcastCrc_reverse dst, mcastIndex_toNat dst⟩, by decide, by decide, by decide, by decide⟩

/-! ### What an accepted frame leaves (R233 to R239) -/

/-- A delivered frame leaves every buffer byte alone outside its ring positions (R235, R236). -/
theorem chipRead8_receive {s : State} (hwf : Memory.wf s.mem) (frame : List Byte) {a : Int}
    (hn : ∀ n, n < (padded frame).length + 8 → ringAddr s n ≠ a) : chipRead8 (receive frame s) a = chipRead8 s a :=
  chipRead8_of_engineFields (receive_engineFields frame s) a fun hb => receive_read hwf frame hb hn

/-- Settles O42: the record is `storeFrame_eq`, and `chipRead8_receive` says where buffer bytes change. -/
theorem acceptedFrameMovesPointerAndFlags : Obligations.AcceptedFrameMovesPointerAndFlags := by
  intro s bytes haccept
  refine ⟨?record, fun hwf => ⟨?canonical, fun a => chipRead8_receive hwf bytes⟩⟩
  case record =>
    rw [receive_of_accepted haccept, storeFrame_eq]
    rfl
  case canonical =>
    rw [receive_of_accepted haccept, storeFrame_eq]
    exact storedMemory_wf s bytes hwf

/-! ### The pointers of a configured ring (R223, R224, R233) -/

@[simp] theorem receive_cfg (frame : List Byte) (s : State) : (receive frame s).cfg = s.cfg :=
  eq_of_engineFields (fun _ => rfl) (receive_engineFields frame s)

@[simp] theorem receive_pageStart (frame : List Byte) (s : State) : (receive frame s).pageStart = s.pageStart :=
  eq_of_engineFields (fun _ => rfl) (receive_engineFields frame s)

@[simp] theorem receive_pageStop (frame : List Byte) (s : State) : (receive frame s).pageStop = s.pageStop :=
  eq_of_engineFields (fun _ => rfl) (receive_engineFields frame s)

@[simp] theorem receive_boundPtr (frame : List Byte) (s : State) : (receive frame s).boundPtr = s.boundPtr :=
  eq_of_engineFields (fun _ => rfl) (receive_engineFields frame s)

theorem pagesRequired_lt_freePages {s : State} {frame : List Byte} (h : acceptsFrame s frame = true) :
    (pagesRequired frame.length : Int) < freePages s := by
  refine not_le.1 fun hfull => ?_
  rw [(acceptsFrame_eq_false_iff s frame).2 (.inr (.inr (.inl hfull)))] at h
  cases h

section
variable {s : State} (hc : RingConfigured s)
include hc

theorem RingConfigured.freePages_le : freePages s ≤ (s.pageStop.toNat : Int) - s.pageStart.toNat := by
  obtain ⟨-, hcurr, hbound, -⟩ := hc
  rw [freePages_eq]
  split <;> omega

/-- Taking fewer pages than are free stays in the ring, with one subtraction of its size at most (R233). -/
theorem RingConfigured.nextPage_mem {pages : Nat} (h : (pages : Int) < freePages s) :
    (s.pageStart.toNat : Int) ≤ nextPage s pages ∧ nextPage s pages < s.pageStop.toNat := by
  have hle := hc.freePages_le
  obtain ⟨-, hcurr, -⟩ := hc
  simp only [nextPage]
  split <;> omega

variable {frame : List Byte} (ha : acceptsFrame s frame = true)
include ha

theorem RingConfigured.receive_currPage :
    ((receive frame s).currPage.toNat : Int) = nextPage s (pagesRequired frame.length) := by
  obtain ⟨hlo, hhi⟩ := hc.nextPage_mem (pagesRequired_lt_freePages ha)
  have hstop := s.pageStop.isLt
  rw [receive_of_accepted ha, storeFrame_eq]
  simp only [BitVec.toNat_ofInt]
  omega

theorem RingConfigured.receive : RingConfigured (receive frame s) := by
  obtain ⟨hlo, hhi⟩ := hc.nextPage_mem (pagesRequired_lt_freePages ha)
  have hcurr := hc.receive_currPage ha
  obtain ⟨hring, -, hbound, hbacked⟩ := hc
  simp only [RingConfigured, receive_cfg, receive_pageStart, receive_pageStop, receive_boundPtr]
  exact ⟨hring, by omega, hbound, hbacked⟩

/-- The pages a frame takes are no longer free: `curr_page` moves towards `bound_ptr` and never onto it. -/
theorem RingConfigured.receive_freePages :
    freePages (Machine.receive frame s) = freePages s - pagesRequired frame.length := by
  have hcurr := hc.receive_currPage ha
  have hroom := pagesRequired_lt_freePages ha
  obtain ⟨-, hin, hbound, -⟩ := hc
  simp only [freePages, receive_pageStart, receive_pageStop, receive_boundPtr, hcurr, nextPage] at hroom ⊢
  split_ifs at hroom ⊢ <;> omega

end

/-- Settles O45: in a configured ring the free pages fall by exactly the pages of the frame, and at least one is left. -/
theorem ringIsNeverFull : Obligations.RingIsNeverFull := by
  refine ⟨fun s frame hfull => ?full, fun s frame hc ha => ?accepted⟩
  case full => exact receive_of_dropped ((acceptsFrame_eq_false_iff s frame).2 (.inr (.inr (.inl hfull))))
  case accepted =>
    have hroom := pagesRequired_lt_freePages ha
    have hfree := hc.receive_freePages ha
    have hpos := pagesRequired_pos frame.length
    refine ⟨hc.receive ha, hfree, by omega, fun hbound => ?_⟩
    have hle := hc.freePages_le
    have hempty := freePages_of_not_below (s := receive frame s) (by rw [receive_boundPtr, hbound])
    rw [receive_boundPtr, hbound, receive_pageStart, receive_pageStop] at hempty
    omega

/-! ### Ring positions (R235) -/

/-- The bytes of the ring. -/
def ringSize (s : State) : Nat := 256 * (s.pageStop.toNat - s.pageStart.toNat)

/-- The split of R235 in page numbers. -/
theorem ringAddr_eq (s : State) (n : Nat) :
    ringAddr s n =
      if s.pageStop.toNat * 256 ≤ s.currPage.toNat * 256 + n
      then (s.currPage.toNat : Int) * 256 + n - ((s.pageStop.toNat : Int) - s.pageStart.toNat) * 256
      else (s.currPage.toNat : Int) * 256 + n := by
  simp only [ringAddr, pageAddr]
  split_ifs <;> omega

/-- The address of a ring position looks at the three pointers alone. -/
theorem ringAddr_congr {s t : State} (hstart : t.pageStart = s.pageStart) (hstop : t.pageStop = s.pageStop)
    (hcurr : t.currPage = s.currPage) (n : Nat) : ringAddr t n = ringAddr s n := by
  simp only [ringAddr, hstart, hstop, hcurr]

section
variable {s : State} (hc : RingConfigured s) {n : Nat} (hn : n < ringSize s)
include hc hn

theorem RingConfigured.ringAddr_mem :
    (s.pageStart.toNat : Int) * 256 ≤ ringAddr s n ∧ ringAddr s n < (s.pageStop.toNat : Int) * 256 := by
  obtain ⟨-, hcurr, -⟩ := hc
  rw [ringAddr_eq]
  unfold ringSize at hn
  split_ifs <;> omega

/-- A configured ring is backed and above the PROM window (R71, R297). -/
theorem RingConfigured.ringAddr_backed (hp : s.cfg.wf = true) :
    32 ≤ ringAddr s n ∧ ringAddr s n ≤ 0xFFFF ∧ backed s.cfg (ringAddr s n) = true := by
  obtain ⟨hlo, hhi⟩ := hc.ringAddr_mem hn
  obtain ⟨-, -, -, hstart, hstop⟩ := hc
  simp only [Config.wf, Config.memEnd, Bool.and_eq_true, decide_eq_true_eq] at hp hstop
  rw [backed_iff]
  omega

theorem RingConfigured.ringAddr_inj {m : Nat} (hm : m < ringSize s) (h : ringAddr s n = ringAddr s m) : n = m := by
  obtain ⟨-, hcurr, -⟩ := hc
  rw [ringAddr_eq, ringAddr_eq] at h
  unfold ringSize at hn hm
  split_ifs at h <;> omega

end

@[simp] theorem ringSize_receive (frame : List Byte) (s : State) : ringSize (receive frame s) = ringSize s := by
  rw [ringSize, receive_pageStart, receive_pageStop, ringSize]

/-! ### The bytes of an accepted frame (R226, R234, R235) -/

/-- Inside the ring no position is written twice, so each byte of a ring copy stands at its own (R235). -/
theorem RingConfigured.ringWrite_read {s : State} (hc : RingConfigured s) (hp : s.cfg.wf = true) {bytes : List Byte}
    {m : Memory} (hm : Memory.wf m) {i : Nat} (hfit : i + bytes.length ≤ ringSize s) {k : Nat} (hk : k < bytes.length) :
    Memory.read (ringWrite s m i bytes) (ringAddr s (i + k) - s.cfg.memStart).toNat = bytes[k] := by
  induction bytes generalizing m i k with
  | nil => exact absurd hk (Nat.not_lt_zero k)
  | cons b rest ih =>
    rw [List.length_cons] at hfit hk
    have hstored := memoryWrite8_wf hm (c := s.cfg) (ringAddr s i) b
    rw [ringWrite]
    cases k with
    | zero =>
      obtain ⟨hlo, hhi, hb⟩ := hc.ringAddr_backed (n := i) (by omega) hp
      rw [Nat.add_zero i, ringWrite_read_of_ne hstored _ _ hb, memoryWrite8_read hm b hb, if_pos (by omega),
        List.getElem_cons_zero]
      intro n hlt hle heq
      have := hc.ringAddr_inj (by omega) (by omega) heq
      omega
    | succ k =>
      rw [show i + (k + 1) = i + 1 + k by omega, List.getElem_cons_succ]
      exact ih hstored (by omega) (by omega)

/-- What stands in the ring for a frame before the CRC slot: header and padded frame (R226, R234). -/
def storedBytes (frame : List Byte) (s : State) : List Byte :=
  header (destination (padded frame)) (nextPage s (pagesRequired frame.length)) (padded frame).length ++ padded frame

theorem storedBytes_length (frame : List Byte) (s : State) :
    (storedBytes frame s).length = 4 + (padded frame).length := by
  rw [storedBytes, List.length_append]
  rfl

theorem storedBytes_lengthField (frame : List Byte) (s : State) :
    (storedBytes frame s)[2]'(by rw [storedBytes_length]; omega) =
        lowByte (BitVec.ofNat 16 ((padded frame).length + 4)) ∧
      (storedBytes frame s)[3]'(by rw [storedBytes_length]; omega) =
        highByte (BitVec.ofNat 16 ((padded frame).length + 4)) := ⟨rfl, rfl⟩

/-- The next-page byte is what `curr_page` becomes (R234, R237). -/
theorem storedBytes_nextPage {frame : List Byte} {s : State} (h : acceptsFrame s frame = true) :
    (storedBytes frame s)[1]'(by rw [storedBytes_length]; omega) = (receive frame s).currPage := by
  rw [receive_of_accepted h, storeFrame_eq]
  rfl

theorem storedBytes_drop_header (frame : List Byte) (s : State) {i : Nat} (hi : i < (padded frame).length) :
    (storedBytes frame s)[4 + i]'(by rw [storedBytes_length]; omega) = (padded frame)[i] := by
  simp only [storedBytes]
  rw [List.getElem_append_right (by simp [header])]
  simp [header]

/-- From the `curr_page` of a state on, ring positions keep their addresses while engines run (R235). -/
theorem frameByte_currPage {s t : State} (h : withoutEngineFields t = withoutEngineFields s) (n : Nat) :
    frameByte t s.currPage n = chipRead8 t (ringAddr s n) := by
  rw [frameByte, ringAddr_congr (s := s) (t := t.setCurrPage s.currPage) (eq_of_engineFields (fun _ => rfl) h)
    (eq_of_engineFields (fun _ => rfl) h) rfl]

/-- The bytes `data` stand at the ring positions from the start of `page` on. -/
def StandsAt (t : State) (page : Byte) (data : List Byte) : Prop :=
  ∀ (n : Nat) (h : n < data.length), frameByte t page n = data[n]

section
variable {s : State} (hc : RingConfigured s) {frame : List Byte} (ha : acceptsFrame s frame = true)
include hc ha

theorem RingConfigured.pages_fit : 256 * pagesRequired frame.length ≤ ringSize s := by
  have hroom := pagesRequired_lt_freePages ha
  have hle := hc.freePages_le
  unfold ringSize
  omega

/-- The CRC slot overwrites nothing of what the ring copy stored before it (R235, R236). -/
theorem RingConfigured.receive_standsAt (hs : s.Inv) :
    StandsAt (Machine.receive frame s) s.currPage (storedBytes frame s) := by
  intro n hn
  have hlen := storedBytes_length frame s
  have hslot := padded_length_add_eight_le frame
  have hfit := hc.pages_fit ha
  obtain ⟨hlo, hhi, hb⟩ := hc.ringAddr_backed (n := n) (by omega) hs.params
  have hread := hc.ringWrite_read hs.params hs.memory (i := 0) (by omega) hn
  rw [Nat.zero_add] at hread
  rw [frameByte_currPage (receive_engineFields frame s), chipRead8_of_backed (by omega) (by rwa [receive_cfg]),
    receive_of_accepted ha, storeFrame_eq]
  change Memory.read (ringWrite s (ringWrite s s.mem 0 (storedBytes frame s)) _ (crcSlotBytes s)) _ = _
  refine (ringWrite_read_of_ne (ringWrite_wf hs.memory _ _) _ _ hb fun m hlt hle heq => ?_).trans hread
  have hcrc : (crcSlotBytes s).length = 4 := rfl
  have := hc.ringAddr_inj (by omega) (by omega) heq
  omega

end

section
variable {t u : State} {page : Byte} {frame : List Byte} (h : StandsAt t page (storedBytes frame u))
include h

theorem StandsAt.lengthField (hlen : (padded frame).length + 4 < 65536) :
    (frameByte t page 2).toNat + 256 * (frameByte t page 3).toNat = (padded frame).length + 4 := by
  have hstored := storedBytes_length frame u
  obtain ⟨hlow, hhigh⟩ := storedBytes_lengthField frame u
  rw [h 2 (by omega), h 3 (by omega), hlow, hhigh, ← toNat_append_byte, highByte_append_lowByte, BitVec.toNat_ofNat,
    Nat.mod_eq_of_lt hlen]

theorem StandsAt.frameLength (hlen : (padded frame).length + 4 < 65536) :
    frameLength t page = (padded frame).length := by
  rw [Machine.frameLength, h.lengthField hlen, Nat.add_sub_cancel]

theorem StandsAt.frameAt (hlen : (padded frame).length + 4 < 65536) : frameAt t page = padded frame := by
  rw [Machine.frameAt, h.frameLength hlen]
  refine List.ext_getElem (by simp) fun i _ hi => ?_
  have hstored := storedBytes_length frame u
  rw [List.getElem_map, List.getElem_range, h (4 + i) (by omega), storedBytes_drop_header frame u hi]

end

/-- The length field of a frame in a backed ring does not overflow (R234). -/
theorem RingConfigured.padded_length_lt {s : State} (hc : RingConfigured s) {frame : List Byte}
    (ha : acceptsFrame s frame = true) : (padded frame).length + 4 < 65536 := by
  have hslot := padded_length_add_eight_le frame
  have hfit := hc.pages_fit ha
  have hstop := s.pageStop.isLt
  unfold ringSize at hfit
  omega

/-- Settles O43: the stored bytes stand at the old `curr_page`, and header and frame are read off them. -/
theorem acceptedFrameStandsInTheRing : Obligations.AcceptedFrameStandsInTheRing := by
  intro s frame hs hc ha
  have hstands := hc.receive_standsAt ha hs
  have hlen := hc.padded_length_lt ha
  have hstored := storedBytes_length frame s
  exact ⟨hstands 0 (by omega), (hstands 1 (by omega)).trans (storedBytes_nextPage ha), hstands.lengthField hlen,
    (hstands.frameLength hlen).trans (padded_length frame), hstands.frameAt hlen, ringAddr_eq s⟩

/-! ### Several frames (R241) -/

/-- The pages that the frames require together. -/
def totalPages (frames : List (List Byte)) : Nat := (frames.map fun f => pagesRequired f.length).sum

theorem totalPages_cons (frame : List Byte) (rest : List (List Byte)) :
    totalPages (frame :: rest) = pagesRequired frame.length + totalPages rest := by
  rw [totalPages, List.map_cons, List.sum_cons, totalPages]

/-- Positions count on from the next frame as they would from the frame before it (R233, R235). -/
theorem RingConfigured.ringAddr_receive {s : State} (hc : RingConfigured s) {frame : List Byte}
    (ha : acceptsFrame s frame = true) {n : Nat} (hn : 256 * pagesRequired frame.length + n < ringSize s) :
    ringAddr (Machine.receive frame s) n = ringAddr s (256 * pagesRequired frame.length + n) := by
  have hcurr := hc.receive_currPage ha
  obtain ⟨-, hin, -⟩ := hc
  unfold ringSize at hn
  simp only [nextPage] at hcurr
  rw [ringAddr_eq, ringAddr_eq, receive_pageStart, receive_pageStop]
  split_ifs at hcurr ⊢ <;> omega

theorem deliver_engineFields (frames : List (List Byte)) (s : State) :
    withoutEngineFields (deliver frames s) = withoutEngineFields s := by
  induction frames generalizing s with
  | nil => rfl
  | cons frame rest ih => exact (ih _).trans (receive_engineFields frame s)

/-- Frames that fit the ring together leave every buffer byte alone outside their pages. -/
theorem RingConfigured.chipRead8_deliver {s : State} (hs : s.Inv) (hc : RingConfigured s) {frames : List (List Byte)}
    (ha : allAccepted frames s) (hfit : 256 * totalPages frames ≤ ringSize s) {a : Int}
    (hn : ∀ n, n < 256 * totalPages frames → ringAddr s n ≠ a) : chipRead8 (deliver frames s) a = chipRead8 s a := by
  induction frames generalizing s with
  | nil => rfl
  | cons frame rest ih =>
    obtain ⟨haccept, hrest⟩ := ha
    rw [totalPages_cons, Nat.mul_add] at hfit hn
    have hslot := padded_length_add_eight_le frame
    have hkept := ih (hs.receive frame) (hc.receive haccept) hrest (by rw [ringSize_receive]; omega) fun n hlt => by
      rw [hc.ringAddr_receive haccept (by omega)]
      exact hn _ (by omega)
    exact hkept.trans (chipRead8_receive hs.memory frame fun n hlt => hn n (by omega))

/-- A frame still stands as stored after later frames that fit the ring together with it. -/
theorem RingConfigured.deliver_standsAt {s : State} (hs : s.Inv) (hc : RingConfigured s) {frame : List Byte}
    {rest : List (List Byte)} (ha : allAccepted (frame :: rest) s)
    (hfit : 256 * totalPages (frame :: rest) ≤ ringSize s) :
    StandsAt (deliver (frame :: rest) s) s.currPage (storedBytes frame s) := by
  obtain ⟨haccept, hrest⟩ := ha
  intro n hn
  have hlen := storedBytes_length frame s
  have hslot := padded_length_add_eight_le frame
  rw [totalPages_cons, Nat.mul_add] at hfit
  rw [← hc.receive_standsAt haccept hs n hn, frameByte_currPage (deliver_engineFields _ s),
    frameByte_currPage (receive_engineFields frame s)]
  refine (hc.receive haccept).chipRead8_deliver (hs.receive frame) hrest (by rw [ringSize_receive]; omega)
    fun m hm heq => ?_
  rw [hc.ringAddr_receive haccept (by omega)] at heq
  have := hc.ringAddr_inj (by omega) (by omega) heq
  omega

/-- Following the next-page bytes from the first frame reads every frame back (R241). -/
theorem RingConfigured.framesFrom_deliver {s : State} (hs : s.Inv) (hc : RingConfigured s) {frames : List (List Byte)}
    (ha : allAccepted frames s) (hfit : 256 * totalPages frames ≤ ringSize s) :
    framesFrom (deliver frames s) s.currPage frames.length = frames.map padded := by
  induction frames generalizing s with
  | nil => rfl
  | cons frame rest ih =>
    have hstands := hc.deliver_standsAt hs ha hfit
    obtain ⟨haccept, hrest⟩ := ha
    have hnext := (hstands 1 (by rw [storedBytes_length]; omega)).trans (storedBytes_nextPage haccept)
    rw [totalPages_cons, Nat.mul_add] at hfit
    rw [List.length_cons, framesFrom, hstands.frameAt (hc.padded_length_lt haccept), hnext, List.map_cons]
    exact congrArg _ (ih (hs.receive frame) (hc.receive haccept) hrest (by rw [ringSize_receive]; omega))

/-- Settles O44: each frame keeps its ring positions when the later ones are delivered (`deliver_standsAt`), so the
next-page bytes lead from frame to frame. -/
theorem deliveredFramesReadBackInOrder : Obligations.DeliveredFramesReadBackInOrder := by
  intro frames s hs hc ha hpages
  refine hc.framesFrom_deliver hs ha ?_
  rw [← totalPages] at hpages
  unfold ringSize
  omega

end Sys2Proof.Machine

/-! ## Transmit (O9, O15 to O17) -/

namespace Sys2Proof.Machine

/-! ### The state a transmission starts from (R112) -/

section
variable (v : Byte) (s : State)

@[simp] theorem commandStored_cr :
    (commandStored v s).cr =
      { pgsel := v.extractLsb' 6 2
        rdmaCmd := if v.extractLsb' 3 3 = 0#3 then 4#3 else v.extractLsb' 3 3
        txPacket := s.cr.txPacket
        start := v.getLsbD 1
        stop := v.getLsbD 0 } := by
  rw [commandStored_eq]

@[simp] theorem commandStored_txPending : (commandStored v s).txPending = s.txPending := by rw [commandStored_eq]

@[simp] theorem commandStored_tsr : (commandStored v s).tsr = s.tsr := by rw [commandStored_eq]

@[simp] theorem commandStored_pktTx : (commandStored v s).isr.pktTx = s.isr.pktTx := by rw [commandStored_eq]

@[simp] theorem commandStored_sent : (commandStored v s).sent = s.sent := by rw [commandStored_eq]

@[simp] theorem commandStored_asserts : (commandStored v s).asserts = s.asserts := by rw [commandStored_eq]

@[simp] theorem commandStored_cfg : (commandStored v s).cfg = s.cfg := by rw [commandStored_eq]

@[simp] theorem commandStored_tcr : (commandStored v s).tcr = s.tcr := by rw [commandStored_eq]

@[simp] theorem commandStored_rcr : (commandStored v s).rcr = s.rcr := by rw [commandStored_eq]

@[simp] theorem commandStored_engineFields : withoutEngineFields (commandStored v s) = withoutEngineFields s := by
  rw [commandStored_eq]
  rfl

@[simp] theorem commandStored_txRegion : txRegion (commandStored v s) = transmitRegion s := by
  obtain ⟨-, -, hregion, -⟩ := commandStored_loopback v s
  exact hregion

end

/-! ### A CR write that starts a transmission (R250 to R254, R258) -/

section
variable {v : Byte} {s : State}

theorem wrCr_of_transmit (h : v.getLsbD 2 = true) :
    exec (.wrCr v) s = andThen (transmitStart (commandStored v s)) irqProbe := by
  rw [exec_wrCr, transmitIfAsked, if_pos h]

theorem wrCr_of_external (h : v.getLsbD 2 = true) (hmode : s.tcr.loopCntl = 0#2) (hidle : s.txPending = false) :
    exec (.wrCr v) s = .next (irqProbe (externalTransmit (commandStored v s))) := by
  simp [wrCr_of_transmit h, transmitStart, hmode, hidle, andThen]

theorem wrCr_of_loopback (h : v.getLsbD 2 = true) (hmode : s.tcr.loopCntl = 1#2) :
    exec (.wrCr v) s = .next (irqProbe (loopbackTransmit (commandStored v s))) := by
  simp [wrCr_of_transmit h, transmitStart, hmode, andThen]

/-- In loopback modes 2 and 3 a CR write does no more than store its fields and probe, whatever bit 2 is (R253). -/
theorem wrCr_of_inertLoopback (hexternal : s.tcr.loopCntl ≠ 0#2) (hlooped : s.tcr.loopCntl ≠ 1#2) :
    exec (.wrCr v) s = .next (irqProbe (commandStored v s)) := by
  cases hasked : v.getLsbD 2 with
  | false => exact wrCr_of_noTransmit hasked s
  | true => simp [wrCr_of_transmit hasked, transmitStart, hexternal, hlooped, andThen]

end

/-- The CR write `v` starts an external transmission while one is pending (R258). -/
def Overlaps (v : Byte) (s : State) : Prop := v.getLsbD 2 = true ∧ s.tcr.loopCntl = 0#2 ∧ s.txPending = true

theorem wrCr_of_overlaps {v : Byte} {s : State} (h : Overlaps v s) : exec (.wrCr v) s = .fault .txOverlap := by
  obtain ⟨hasked, hmode, hpending⟩ := h
  simp [wrCr_of_transmit hasked, transmitStart, hmode, hpending, andThen]

theorem wrCr_next_or_overlaps (v : Byte) (s : State) : (∃ t, exec (.wrCr v) s = .next t) ∨ Overlaps v s := by
  by_cases h : Overlaps v s
  · exact .inr h
  · refine .inl (wrCr_next ?_)
    rwa [Overlaps, not_and_or, not_and_or, Bool.not_eq_true, Bool.not_eq_true] at h

/-! ### Everything a step can answer (R257, R258) -/

/-- Every access but a CR write completes. -/
theorem exec_next_of_ne_wrCr {i : Instr} (h : ∀ v, i ≠ .wrCr v) (s : State) : ∃ t, exec i s = .next t := by
  cases i with
  | wrCr v => exact absurd rfl (h v)
  | wrData10 v | wrData11 v | wrData12 v | wrData13 v | wrData14 v | wrData15 v | wrData16 v | wrData17 v | wrData18 v
  | wrData19 v | wrData1a v | wrData1b v | wrData1c v | wrData1d v | wrData1e v =>
    exact (dataPortWrite_next v s).imp fun _ ht => ht.1
  | _ => exact ⟨_, rfl⟩

theorem completeTransmit_of_idle {s : State} (h : s.txPending = false) :
    completeTransmit s = .refused .noCompletionPending := if_neg (by rw [h]; decide)

theorem busCycle_read_next (port : Nat) (s : State) : ∃ t, busCycle port (readCycle s) s = .next t := by
  by_cases hport : s.cfg.ioBase ≤ port ∧ port ≤ s.cfg.ioBase + 0x1F
  · obtain ⟨hlo, hhi⟩ := hport
    obtain ⟨i, hread, hi⟩ := decode_readDescriptor s.cr.pgsel (BitVec.ofNat 5 (port - s.cfg.ioBase)) []
    obtain ⟨t, -, ht, -⟩ := exec_read hread s
    exact ⟨t, (busCycle_of_decode (cycle := readCycle s) hlo hhi hi).trans ht⟩
  · exact ⟨s, busCycle_of_unclaimed (by omega) _⟩

/-- Of the write descriptors only those of offset 0 decode to a CR write (R92, R97). -/
theorem decodeAccess_eq_wrCr {pp : BitVec 2} {off : BitVec 5} {v w : Byte}
    (h : decodeAccess (descriptor true pp off) v = some (.wrCr w)) : off = 0#5 ∧ w = v := by
  obtain ⟨hpat, hdata⟩ := decodeAccess_pattern_dataByte h
  have hoff := congrArg descriptorOffset hpat
  simp only [descriptorOffset_descriptor, descriptorIsWrite_descriptor] at hoff hdata
  exact ⟨hoff.symm.trans (show descriptorOffset 0x80#8 = 0#5 by decide), Option.some.inj hdata⟩

/-- A write at a port completes, or it is an overlapping CR write (R108, R258). -/
theorem busCycle_write_cases (port : Nat) (v : Byte) (s : State) :
    (∃ t, busCycle port (writeCycle s · v) s = .next t) ∨
    (busCycle port (writeCycle s · v) s = .fault .txOverlap ∧ port = s.cfg.ioBase ∧ Overlaps v s) := by
  by_cases hport : s.cfg.ioBase ≤ port ∧ port ≤ s.cfg.ioBase + 0x1F
  · obtain ⟨hlo, hhi⟩ := hport
    obtain ⟨i, hi, hdata⟩ := writeCycle_decodes s.cr.pgsel (BitVec.ofNat 5 (port - s.cfg.ioBase)) v
    have hcycle : busCycle port (writeCycle s · v) s = exec i s :=
      busCycle_of_decode (cycle := (writeCycle s · v)) (rest := []) hlo hhi (by simp [writeCycle, decode, hi])
    rw [hcycle]
    by_cases hcr : ∃ w, i = .wrCr w
    · obtain ⟨w, rfl⟩ := hcr
      obtain ⟨hoff, rfl⟩ := decodeAccess_eq_wrCr hi
      refine (wrCr_next_or_overlaps w s).imp_right fun h => ⟨wrCr_of_overlaps h, ?_, h⟩
      have hzero := congrArg BitVec.toNat hoff
      rw [BitVec.toNat_ofNat, BitVec.toNat_zero] at hzero
      omega
    · exact .inl (exec_next_of_ne_wrCr (fun w e => hcr ⟨w, e⟩) s)
  · exact .inl ⟨s, busCycle_of_unclaimed (by omega) _⟩

/-- Everything an agent's step can answer: a next state, the overlap, or the refusal of a completion not pending
(R257, R258). -/
theorem perform_cases (e : Event) (s : State) :
    (∃ t, perform e s = .next t) ∨
    (perform e s = .fault .txOverlap ∧ ∃ v, e = .write s.cfg.ioBase v ∧ Overlaps v s) ∨
    (perform e s = .refused .noCompletionPending ∧ e = .txdone ∧ s.txPending = false) := by
  cases e with
  | read port => exact .inl (busCycle_read_next port s)
  | write port v =>
    obtain hnext | ⟨hfault, rfl, hover⟩ := busCycle_write_cases port v s
    · exact .inl hnext
    · exact .inr (.inl ⟨hfault, v, rfl, hover⟩)
  | frame bytes => exact .inl ⟨_, rfl⟩
  | txdone =>
    cases hpending : s.txPending with
    | false => exact .inr (.inr ⟨completeTransmit_of_idle hpending, rfl, rfl⟩)
    | true => exact .inl ⟨_, completeTransmit_of_pending hpending⟩
  | init mac irq => exact .inl ⟨_, rfl⟩

/-- Everything a step can answer, by the event it takes. -/
theorem step_cases (s : State) :
    (∃ t, step s = .next t) ∨
    (step s = .fault .txOverlap ∧ ∃ v rest, s.inputs = .write s.cfg.ioBase v :: rest ∧ Overlaps v s) ∨
    (step s = .refused .noCompletionPending ∧ s.txPending = false ∧ ∃ rest, s.inputs = .txdone :: rest) := by
  cases hin : s.inputs with
  | nil => exact .inl ⟨s, step_of_nil hin⟩
  | cons e rest =>
    rw [step_of_cons hin]
    obtain hnext | ⟨hfault, v, rfl, hover⟩ | ⟨hrefused, rfl, hidle⟩ :=
      perform_cases e { s with inputs := rest, readData := none }
    · exact .inl hnext
    · exact .inr (.inl ⟨hfault, v, rest, rfl, hover⟩)
    · exact .inr (.inr ⟨hrefused, hidle, rest, rfl⟩)

theorem step_eq_fault {s : State} {r : Fault} (h : step s = .fault r) :
    r = .txOverlap ∧ ∃ v rest, s.inputs = .write s.cfg.ioBase v :: rest ∧ Overlaps v s := by
  obtain ⟨t, e⟩ | ⟨e, hover⟩ | ⟨e, -⟩ := step_cases s <;> rw [e] at h <;> cases h
  exact ⟨rfl, hover⟩

theorem step_eq_refused {s : State} {r : Refusal} (h : step s = .refused r) :
    r = .noCompletionPending ∧ s.txPending = false ∧ ∃ rest, s.inputs = .txdone :: rest := by
  obtain ⟨t, e⟩ | ⟨e, -⟩ | ⟨e, hidle⟩ := step_cases s <;> rw [e] at h <;> cases h
  exact ⟨rfl, hidle⟩

/-- Settles O9: of all accesses only a CR write stops, and only where it `Overlaps`; its cycle is at the block's first
port. The overlap needs `tx_pending`, which the invariant rules out without TX_DEFERRED. -/
theorem onlyTransmitOverlapFaults : Obligations.OnlyTransmitOverlapFaults := by
  refine ⟨fun v s hasked hmode hpending => wrCr_of_overlaps ⟨hasked, hmode, hpending⟩, fun s r h => ?fault,
    fun s r => step_eq_refused, fun s r hs hd h => ?synchronous⟩
  case fault =>
    obtain ⟨hr, v, rest, hin, hasked, hmode, hpending⟩ := step_eq_fault h
    exact ⟨hr, hpending, hmode, v, rest, hin, hasked⟩
  case synchronous =>
    obtain ⟨-, -, -, -, -, -, hpending⟩ := step_eq_fault h
    exact absurd (hpending.symm.trans (hs.synchronous hd)) (by decide)

/-! ### The assertions of a transmission and of the probe after it (R207, R252, R256) -/

/-- What decides and names an assertion is no engine field. -/
theorem interrupts_of_engineFields {s t : State} (h : withoutEngineFields t = withoutEngineFields s) :
    t.imr = s.imr ∧ t.irqLine = s.irqLine :=
  ⟨congrArg (fun s => s.imr) h, congrArg (fun s => s.irqLine) h⟩

/-- The assertion that comes with `pkt_tx`: none while `pkt_tx` is set already (R252, R256). -/
def txAsserts (s : State) : List Nat := if s.imr.txInte = true ∧ s.isr.pktTx = false then [s.irqLine] else []

theorem txAsserts_congr {s t : State} (hengine : withoutEngineFields t = withoutEngineFields s)
    (hsent : t.isr.pktTx = s.isr.pktTx) : txAsserts t = txAsserts s := by
  obtain ⟨himr, hline⟩ := interrupts_of_engineFields hengine
  rw [txAsserts, himr, hline, hsent, txAsserts]

@[simp] theorem commandStored_txAsserts (v : Byte) (s : State) : txAsserts (commandStored v s) = txAsserts s :=
  txAsserts_congr (by simp) (by simp)

theorem txAsserts_eq (s : State) : txAsserts s = if s.imr.txInte && !s.isr.pktTx then [s.irqLine] else [] := by
  simp only [txAsserts, Bool.and_eq_true, Bool.not_eq_true']

theorem externalTransmit_asserts (s : State) :
    (externalTransmit s).asserts = s.asserts ++ if s.cfg.txDeferred then [] else txAsserts s := by
  cases hd : s.cfg.txDeferred with
  | false => simp [externalTransmit_eq_sync s hd, txAsserts_eq]
  | true => simp [externalTransmit_eq_deferred s hd]

/-- The receive assertion comes first (R252). -/
theorem loopbackTransmit_asserts (s : State) :
    (loopbackTransmit s).asserts = (receive (txRegion s) s).asserts ++ txAsserts s := by
  rw [loopbackTransmit, raisePktTx_eq, receive_eq, txAsserts_eq]

theorem externalTransmit_sent (s : State) : (externalTransmit s).sent = s.sent ++ [txRegion s] := by
  cases hd : s.cfg.txDeferred with
  | false => rw [externalTransmit_eq_sync s hd]
  | true => rw [externalTransmit_eq_deferred s hd]

/-- What the probe of the CR write `v` looks at is stored before a transmission starts: with `rdma_cmd` = 1 there is no
send-packet command, and `remote_bytes` is as it was (R207, R208). -/
theorem probeDue_commandStored (v : Byte) (s : State) :
    probeDue (commandStored v s) = true ↔ v.extractLsb' 3 3 = 1#3 ∧ v.getLsbD 1 = true ∧ s.remoteBytes = 0#16 := by
  rw [probeDue_iff]
  by_cases hcmd : v.extractLsb' 3 3 = 1#3
  · rw [commandStored, storeCommand_of_command hcmd (by decide), sendPacketCommand_of_ne (show 1#3 ≠ 3#3 by decide)]
    simp only [hcmd]
  · have hstored : (commandStored v s).cr.rdmaCmd ≠ 1#3 := by
      rw [commandStored_cr]
      dsimp only
      split
      · decide
      · exact hcmd
    simp only [hcmd, hstored, false_and]

theorem probeDue_externalTransmit (s : State) : probeDue (externalTransmit s) = probeDue s := by
  cases hd : s.cfg.txDeferred with
  | false =>
    rw [externalTransmit_eq_sync s hd]
    rfl
  | true =>
    rw [externalTransmit_eq_deferred s hd]
    rfl

theorem probeDue_loopbackTransmit (s : State) : probeDue (loopbackTransmit s) = probeDue s := by
  rw [loopbackTransmit_eq]
  rfl

/-- The assertion of the probe that ends the CR write `v` (R207). -/
def probeAsserts (v : Byte) (s : State) : List Nat :=
  if v.extractLsb' 3 3 = 1#3 ∧ v.getLsbD 1 = true ∧ s.remoteBytes = 0#16 ∧ s.imr.rdmaInte = true then [s.irqLine]
  else []

theorem irqProbe_asserts {v : Byte} {s u : State} (hengine : withoutEngineFields u = withoutEngineFields s)
    (hdue : probeDue u = probeDue (commandStored v s)) : (irqProbe u).asserts = u.asserts ++ probeAsserts v s := by
  obtain ⟨himr, hline⟩ := interrupts_of_engineFields hengine
  rw [irqProbe_eq, probeAsserts, himr, hline, hdue]
  refine congrArg _ (if_congr ?_ rfl rfl)
  rw [Bool.and_eq_true, probeDue_commandStored]
  tauto

/-! ### External transmission (R254 to R258) -/

theorem transmitRegion_length (s : State) : (transmitRegion s).length = s.txBytes.toNat := by
  rw [transmitRegion, List.length_map, List.length_range]

/-- An external transmission hands the region over, receives nothing, and asserts before the probe does. -/
theorem wrCr_external {v : Byte} {s : State} (h : v.getLsbD 2 = true) (hmode : s.tcr.loopCntl = 0#2)
    (hidle : s.txPending = false) :
    ∃ t, exec (.wrCr v) s = .next t ∧ t.sent = s.sent ++ [transmitRegion s] ∧ KeepsReceived s t ∧
      t.asserts = s.asserts ++ (if s.cfg.txDeferred then [] else txAsserts s) ++ probeAsserts v s ∧
      t.txPending = s.cfg.txDeferred ∧ t.cr.txPacket = s.cfg.txDeferred ∧
      t.tsr = { s.tsr with txOk := s.tsr.txOk || !s.cfg.txDeferred } ∧
      t.isr.pktTx = (s.isr.pktTx || !s.cfg.txDeferred) := by
  refine ⟨_, wrCr_of_external h hmode hidle, ?sent, (commandStored_keepsReceived v s).externalTransmit.irqProbe,
    ?asserts, ?status⟩
  case sent => rw [irqProbe_eq, externalTransmit_sent, commandStored_sent, commandStored_txRegion]
  case asserts =>
    rw [irqProbe_asserts (s := s) (v := v) (by simp) (probeDue_externalTransmit _), externalTransmit_asserts]
    simp
  case status =>
    rw [irqProbe_eq]
    cases hd : s.cfg.txDeferred with
    | false => simp [externalTransmit_eq_sync _ ((commandStored_cfg v s).symm ▸ hd)]
    | true => simp [externalTransmit_eq_deferred _ ((commandStored_cfg v s).symm ▸ hd)]

/-- Settles O15: `wrCr_external` is the CR write with and without TX_DEFERRED, and `txComplete_eq` the completion; a
reset drops `tx_pending` and keeps the send log. -/
theorem externalTransmitSendsAndCompletes : Obligations.ExternalTransmitSendsAndCompletes := by
  refine ⟨fun v s hasked hmode => ⟨fun hpending => wrCr_of_overlaps ⟨hasked, hmode, hpending⟩, fun hidle => ?start⟩,
    fun s rest hin => ⟨fun hpending => ?completion, fun hidle => ?refusal⟩, fun s => ⟨_, rfl, rfl, rfl, rfl⟩,
    transmitRegion_length⟩
  case start =>
    obtain ⟨t, ht, hsent, ⟨hmem, hcurr, hrsr, hrx⟩, hasserts, hpending, hpacket, htsr, htx⟩ :=
      wrCr_external hasked hmode hidle
    refine ⟨t, ht, hsent, hmem, hrsr, hrx, hcurr, fun hd => ?sync, fun hd => ?deferred⟩
    case sync =>
      simp only [hd, Bool.not_false, Bool.or_true] at hasserts hpending hpacket htsr htx
      exact ⟨htsr, htx, hpacket, hpending, hasserts⟩
    case deferred =>
      simp only [hd, Bool.not_true, Bool.or_false, if_true, List.append_nil] at hasserts hpending hpacket htsr htx
      exact ⟨htsr, htx, hpacket, hpending, hasserts⟩
  case completion =>
    obtain ⟨-, hstep, -⟩ := stepPerformsTheOtherAgents s rest
    rw [hstep hin hpending, txComplete_eq]
    simp only [Bool.and_eq_true, Bool.not_eq_true']
  case refusal => exact (step_of_cons hin).trans (completeTransmit_of_idle hidle)

/-! ### Loopback (R252, R253) -/

/-- `s` with what a CR write stores besides ISR as it is in `r`: CR and the remote-DMA registers. -/
def withCommandOf (r s : State) : State :=
  { s with cr := r.cr, remoteStart := r.remoteStart, remoteDma := r.remoteDma, remoteBytes := r.remoteBytes }

theorem ringWrite_withCommandOf (r s : State) (m : Memory) (i : Nat) (bytes : List Byte) :
    ringWrite (withCommandOf r s) m i bytes = ringWrite s m i bytes := by
  induction bytes generalizing m i with
  | nil => rfl
  | cons b rest ih => exact ih _ _

theorem storedMemory_withCommandOf (r : State) (frame : List Byte) (s : State) :
    storedMemory frame (withCommandOf r s) = storedMemory frame s := by
  simp only [storedMemory, ringWrite_withCommandOf]
  rfl

/-- Of CR the receive engine looks at `stop` alone, and at no remote-DMA register (R220, R221). -/
theorem receive_withCommandOf {r s : State} (hstop : r.cr.stop = s.cr.stop) (frame : List Byte) :
    receive frame (withCommandOf r s) = withCommandOf r (receive frame s) := by
  have haccepts : acceptsFrame (withCommandOf r s) frame = acceptsFrame s frame :=
    acceptsFrame_congr s frame hstop rfl rfl rfl rfl rfl rfl rfl
  simp only [receive_eq, haccepts, storedMemory_withCommandOf]
  rfl

/-- The fields just stored that the receive engine looks at, `stop` and ISR, and the rest of the command. -/
theorem commandStored_eq_withCommandOf (v : Byte) (s : State) :
    commandStored v s = withCommandOf (commandStored v s)
      { s with
        isr := { s.isr with reset := s.isr.reset || v.getLsbD 0 }
        cr := { s.cr with stop := v.getLsbD 0 } } := by
  rw [withCommandOf, commandStored_cr]
  exact commandStored_eq v s

theorem KeepsReceived.trans {r s t : State} (h : KeepsReceived r s) (h' : KeepsReceived s t) : KeepsReceived r t :=
  ⟨h'.mem.trans h.mem, h'.currPage.trans h.currPage, h'.rsr.trans h.rsr, h'.pktRx.trans h.pktRx⟩

/-- The TX part of a loopback and the probe receive nothing. -/
theorem keepsReceived_loopback (s : State) :
    KeepsReceived (receive (txRegion s) s) (irqProbe (loopbackTransmit s)) := by
  refine KeepsReceived.irqProbe ?_
  rw [loopbackTransmit, raisePktTx_eq]
  exact ⟨rfl, rfl, rfl, rfl⟩

section
variable {v : Byte} {s : State} (h : v.getLsbD 2 = true) (hmode : s.tcr.loopCntl = 1#2)
include h hmode

/-- A loopback delivers the region to the block with the fields stored, sets `pkt_tx`, and leaves the transmit engine
alone; its assertions come in the order receive, transmit, probe. -/
theorem wrCr_loopback :
    ∃ t, exec (.wrCr v) s = .next t ∧ KeepsReceived (receive (transmitRegion s) (commandStored v s)) t ∧
      t.isr.pktTx = true ∧ t.tsr = s.tsr ∧ t.cr.txPacket = s.cr.txPacket ∧ t.txPending = s.txPending ∧
      t.sent = s.sent ∧
      t.asserts = (receive (transmitRegion s) (commandStored v s)).asserts ++ txAsserts s ++ probeAsserts v s := by
  have hreceived := keepsReceived_loopback (commandStored v s)
  rw [commandStored_txRegion] at hreceived
  refine ⟨_, wrCr_of_loopback h hmode, hreceived, ?pktTx, ?tsr, ?txPacket, ?txPending, ?sent, ?asserts⟩
  case asserts =>
    have hengine : withoutEngineFields (loopbackTransmit (commandStored v s)) = withoutEngineFields s := by
      simp [loopbackTransmit]
    rw [irqProbe_asserts hengine (probeDue_loopbackTransmit _), loopbackTransmit_asserts, commandStored_txRegion,
      commandStored_txAsserts]
  all_goals rw [irqProbe_eq, loopbackTransmit_eq]
  case tsr => exact commandStored_tsr v s
  case txPacket => rw [commandStored_cr]
  case txPending => exact commandStored_txPending v s
  case sent => exact commandStored_sent v s

/-- The TX part of a loopback runs also where the receive engine drops the frame (R252, R259). -/
theorem wrCr_droppedLoopback (hdropped : acceptsFrame (commandStored v s) (transmitRegion s) = false) :
    ∃ t, exec (.wrCr v) s = .next t ∧ KeepsReceived s t ∧ t.isr.pktTx = true ∧ t.sent = s.sent := by
  obtain ⟨t, ht, hreceived, htx, -, -, -, hsent, -⟩ := wrCr_loopback h hmode
  rw [receive_of_dropped hdropped] at hreceived
  exact ⟨t, ht, (commandStored_keepsReceived v s).trans hreceived, htx, hsent⟩

end

/-- Bit 2 is none of the bits that a CR write stores (R112). -/
theorem commandStored_clearTransmit (v : Byte) (s : State) : commandStored (v &&& 0xFB#8) s = commandStored v s := by
  obtain ⟨hpage, hcmd, hstart, hstop⟩ : (v &&& 0xFB#8).extractLsb' 6 2 = v.extractLsb' 6 2 ∧
      (v &&& 0xFB#8).extractLsb' 3 3 = v.extractLsb' 3 3 ∧ (v &&& 0xFB#8).getLsbD 1 = v.getLsbD 1 ∧
      (v &&& 0xFB#8).getLsbD 0 = v.getLsbD 0 := by
    revert v
    decide
  simp only [commandStored, storeCommand_coerceCommand, hpage, hcmd, hstart, hstop]

/-- Settles O16: the receive engine works on the fields just stored, of which it sees `stop` and ISR
(`receive_withCommandOf`); modes 2 and 3 end at the stored fields, where bit 2 is not. -/
theorem loopbackFeedsTheReceiveEngine : Obligations.LoopbackFeedsTheReceiveEngine := by
  refine ⟨fun v s hasked hmode => ?looped, fun v s hmode => ?inert⟩
  case looped =>
    intro stored u
    obtain ⟨t, ht, ⟨hmem, hcurr, hrsr, hrx⟩, htx, htsr, hpacket, hpending, hsent, hasserts⟩ :=
      wrCr_loopback hasked hmode
    have hu : receive (transmitRegion s) (commandStored v s) = withCommandOf (commandStored v s) u := by
      conv_lhs => rw [commandStored_eq_withCommandOf]
      exact receive_withCommandOf (by rw [commandStored_cr]) _
    rw [hu] at hmem hcurr hrsr hrx hasserts
    exact ⟨t, ht, htx, hrx, hrsr, hmem, hcurr, htsr, hpacket, hpending, hsent, hasserts⟩
  case inert =>
    have hexternal : s.tcr.loopCntl ≠ 0#2 := by obtain e | e := hmode <;> rw [e] <;> decide
    have hlooped : s.tcr.loopCntl ≠ 1#2 := by obtain e | e := hmode <;> rw [e] <;> decide
    rw [wrCr_of_inertLoopback hexternal hlooped, wrCr_of_inertLoopback hexternal hlooped, commandStored_clearTransmit]

/-! ### Transmit starts of a stopped block and of a zero count (R259) -/

theorem transmitRegion_of_count_zero {s : State} (h : s.txBytes = 0#16) : transmitRegion s = [] := by
  rw [← List.length_eq_zero_iff, transmitRegion_length, h]
  rfl

/-- Settles O17: an external start looks at neither `stop` nor `start`; a stopped block and, without `runts_ok`, an
empty frame are checks of the receive engine (`acceptsFrame_eq_false_iff`), which the TX part does not wait for. -/
theorem stoppedOrEmptyTransmitStillRuns : Obligations.StoppedOrEmptyTransmitStillRuns := by
  refine ⟨fun v s hasked hmode hidle => ?external, fun v s hasked hstop hmode => ?stopped,
    fun v s hasked hmode hcount hrunts => ?empty⟩
  case external =>
    obtain ⟨t, ht, hsent, -⟩ := wrCr_external hasked hmode hidle
    have hcr := (wrCr_keepsCommand ht).cr
    rw [storeCommand_coerceCommand] at hcr
    refine ⟨t, ht, ?_, ?_, hsent, fun hcount => ?_⟩
    · rw [hcr]
    · rw [hcr]
    · rw [hsent, transmitRegion_of_count_zero hcount]
  case stopped =>
    have hdropped : acceptsFrame (commandStored v s) (transmitRegion s) = false :=
      (acceptsFrame_eq_false_iff _ _).2 (.inl (by rwa [commandStored_cr]))
    obtain ⟨t, ht, ⟨hmem, hcurr, hrsr, hrx⟩, htx, hsent⟩ := wrCr_droppedLoopback hasked hmode hdropped
    exact ⟨t, ht, htx, hrx, hmem, hcurr, hrsr, hsent⟩
  case empty =>
    have hrunt : (transmitRegion s).length < 40 := by
      rw [transmitRegion_of_count_zero hcount]
      decide
    have hdropped : acceptsFrame (commandStored v s) (transmitRegion s) = false :=
      (acceptsFrame_eq_false_iff _ _).2 (.inr (.inr (.inr (.inl ⟨hrunt, by rwa [commandStored_rcr]⟩))))
    obtain ⟨t, ht, ⟨hmem, hcurr, -, -⟩, htx, -⟩ := wrCr_droppedLoopback hasked hmode hdropped
    exact ⟨t, ht, htx, hmem, hcurr⟩

end Sys2Proof.Machine

/-! ## Interrupts and the output logs (O50, O51) -/

namespace Sys2Proof.Machine

/-! ### Assertions of the line (R273) -/

/-- From `s` to `t` the line was asserted `n` times and never lowered (R273). -/
structure Asserted (n : Nat) (s t : State) : Prop where
  irqLine : t.irqLine = s.irqLine
  asserts : t.asserts = s.asserts ++ List.replicate n s.irqLine
  irqLevel : t.irqLevel = true ↔ s.irqLevel = true ∨ 0 < n

section
variable {s t u : State} {m n : Nat}

theorem Asserted.trans (h : Asserted m s t) (h' : Asserted n t u) : Asserted (m + n) s u where
  irqLine := h'.irqLine.trans h.irqLine
  asserts := by rw [h'.asserts, h.irqLine, h.asserts, List.append_assoc, List.replicate_append_replicate]
  irqLevel := by rw [h'.irqLevel, h.irqLevel, or_assoc, Nat.add_pos_iff_pos_or_pos]

theorem Asserted.none (hline : t.irqLine = s.irqLine) (hasserts : t.asserts = s.asserts)
    (hlevel : t.irqLevel = s.irqLevel) : Asserted 0 s t :=
  ⟨hline, hasserts.trans (List.append_nil _).symm, by simp [hlevel]⟩

/-- One assertion under a condition, in the form of the operations' equations. -/
theorem Asserted.of_cond {c : Bool} (hline : t.irqLine = s.irqLine)
    (hasserts : t.asserts = s.asserts ++ if c then [s.irqLine] else []) (hlevel : t.irqLevel = (s.irqLevel || c)) :
    Asserted c.toNat s t := by
  cases c <;> exact ⟨hline, hasserts, by simp [hlevel]⟩

theorem Asserted.asserts_cases {c : Bool} (h : Asserted c.toNat s t) :
    t.asserts = s.asserts ∨ (t.asserts = s.asserts ++ [s.irqLine] ∧ c = true) := by
  cases c with
  | false => exact .inl (h.asserts.trans (List.append_nil _))
  | true => exact .inr ⟨h.asserts, rfl⟩

theorem Asserted.log_grows_iff (h : Asserted n s t) : s.asserts.length < t.asserts.length ↔ 0 < n := by
  rw [h.asserts, List.length_append, List.length_replicate]
  omega

/-- While nothing lowers it, the level is 1 exactly where it was 1 or the log grew. -/
theorem Asserted.irqLevel_iff (h : Asserted n s t) :
    t.irqLevel = true ↔ s.irqLevel = true ∨ s.asserts.length < t.asserts.length := by
  rw [h.log_grows_iff, h.irqLevel]

end

/-! #### How often each operation asserts (R274) -/

section
variable (s : State)

theorem irqProbe_asserted : Asserted (s.imr.rdmaInte && probeDue s).toNat s (irqProbe s) := by
  rw [irqProbe_eq]
  exact .of_cond rfl rfl rfl

theorem receive_asserted (bytes : List Byte) :
    Asserted (acceptsFrame s bytes && s.imr.rxInte).toNat s (receive bytes s) := by
  rw [receive_eq]
  exact .of_cond rfl rfl rfl

theorem raisePktTx_asserted : Asserted (s.imr.txInte && !s.isr.pktTx).toNat s (raisePktTx s) := by
  rw [raisePktTx_eq]
  exact .of_cond rfl rfl rfl

theorem dmaAdvance_asserted (n : Nat) :
    Asserted (s.imr.rdmaInte && (dmaAdvance n s).remoteBytes == 0#16).toNat s (dmaAdvance n s) := by
  rw [dmaAdvance_eq]
  exact .of_cond rfl rfl rfl

theorem commandStored_asserted (v : Byte) : Asserted 0 s (commandStored v s) := by
  rw [commandStored_eq]
  exact .none rfl rfl rfl

/-- The completion of an external transmission asserts at most once, and not yet where it is deferred (R254, R256). -/
theorem externalTransmit_asserted : ∃ n ≤ 1, Asserted n s (externalTransmit s) := by
  cases hd : s.cfg.txDeferred with
  | false =>
    rw [externalTransmit_eq_sync s hd]
    exact ⟨_, Bool.toNat_le _, .of_cond rfl rfl rfl⟩
  | true =>
    rw [externalTransmit_eq_deferred s hd]
    exact ⟨0, Nat.zero_le 1, .none rfl rfl rfl⟩

/-- A loopback asserts at most twice, for the frame received and for the frame sent (R252). -/
theorem loopbackTransmit_asserted : ∃ n ≤ 2, Asserted n s (loopbackTransmit s) :=
  ⟨_, Nat.add_le_add (Bool.toNat_le _) (Bool.toNat_le _), (receive_asserted s _).trans (raisePktTx_asserted _)⟩

end

/-! ### What a step does to the outputs (R43) -/

/-- What the access `i` from `s` to `t` does to the outputs: the level, the assertion log and the send log. -/
inductive OutputEffect (s : State) (i : Instr) (t : State) : Prop where
  /-- The outputs stay as they are. -/
  | kept : Asserted 0 s t → t.sent = s.sent → OutputEffect s i t
  /-- A CR write: transmission, reception and probe assert once each at most (R207, R252, R256). -/
  | command (v : Byte) (n : Nat) : i = .wrCr v → n ≤ 3 → Asserted n s t →
      (t.sent = s.sent ∨ t.sent = s.sent ++ [transmitRegion s]) → OutputEffect s i t
  /-- A data-port access asserts where it leaves the count 0 (R205). -/
  | data : isDataPort i = true → Asserted (s.imr.rdmaInte && t.remoteBytes == 0#16).toNat s t → t.sent = s.sent →
      OutputEffect s i t
  /-- The level is lowered, without an entry in either log (R275, R290). -/
  | lowered : (i = .rdReset ∨ ∃ v, i = .wrP0Isr v ∧ maskedStatus t = 0#8) → t.asserts = s.asserts →
      t.irqLevel = false → t.sent = s.sent → OutputEffect s i t

theorem wrCr_outputEffect {v : Byte} {s t : State} (h : exec (.wrCr v) s = .next t) : OutputEffect s (.wrCr v) t := by
  obtain ⟨u, hu, rfl⟩ := andThen_eq_next.1 h
  have hprobe := irqProbe_asserted u
  have hone := Bool.toNat_le (u.imr.rdmaInte && probeDue u)
  have hstored := commandStored_asserted s v
  have hsent : (irqProbe u).sent = u.sent := by rw [irqProbe_eq]
  obtain ⟨rfl, -⟩ | ⟨-, -, -, rfl⟩ | ⟨-, -, rfl⟩ := transmitIfAsked_cases (s := commandStored v s) hu
  · exact .command v _ rfl (by omega) (hstored.trans hprobe) (.inl (hsent.trans (commandStored_sent v s)))
  · obtain ⟨n, hn, htransmit⟩ := externalTransmit_asserted (commandStored v s)
    refine .command v _ rfl (by omega) ((hstored.trans htransmit).trans hprobe) (.inr ?_)
    rw [hsent, externalTransmit_sent, commandStored_sent, commandStored_txRegion]
  · obtain ⟨n, hn, htransmit⟩ := loopbackTransmit_asserted (commandStored v s)
    refine .command v _ rfl (by omega) ((hstored.trans htransmit).trans hprobe) (.inl ?_)
    rw [hsent, loopbackTransmit_eq, commandStored_sent]

theorem wrIsr_outputEffect (v : Byte) (s : State) : OutputEffect s (.wrP0Isr v) (lowerIrq (clearIsr v s)) := by
  by_cases hmasked : maskedStatus (clearIsr v s) = 0#8
  · rw [lowerIrq, if_pos hmasked]
    exact .lowered (.inr ⟨v, rfl, hmasked⟩) rfl rfl rfl
  · rw [lowerIrq, if_neg hmasked]
    exact .kept (.none rfl rfl rfl) rfl

theorem isDataPort_wrCr (v : Byte) : isDataPort (.wrCr v) = false := by
  rw [isDataPort, Instr.pattern]
  decide

theorem dmaAdvance_sent (n : Nat) (s : State) : (dmaAdvance n s).sent = s.sent := by rw [dmaAdvance_eq]

/-- The effects of the accesses on the outputs. -/
theorem exec_outputEffect {i : Instr} {s t : State} (h : exec i s = .next t) : OutputEffect s i t := by
  cases exec_effect h with
  | command => exact wrCr_outputEffect h
  | isr v => exact wrIsr_outputEffect v s
  | reset => exact .lowered (.inl rfl) rfl rfl rfl
  | dataRead _ hport => exact .data hport { dmaAdvance_asserted s _ with } (dmaAdvance_sent _ s)
  | dataWrite _ v hport =>
    exact .data hport { dmaAdvance_asserted (chipWrite8 s s.remoteDma.toNat v) _ with } (dmaAdvance_sent _ _)
  | returned | ignored | pageStart | pageStop | boundPtr | txPageStart | txBytesLow | txBytesHigh | remoteBytesLow
  | remoteBytesHigh | rcr | tcr | dcr | imr | currPage | localDmaLow | localDmaHigh | rempktPtr | localpktPtr
  | addressCntHigh | addressCntLow | remoteStartLow | remoteStartHigh | mchash => exact .kept (.none rfl rfl rfl) rfl

section
variable {s t : State} {i : Instr} (h : OutputEffect s i t)
include h

theorem OutputEffect.asserts : ∃ n ≤ 3, t.asserts = s.asserts ++ List.replicate n s.irqLine ∧
    (0 < n → isDataPort i = true ∨ ∃ v, i = .wrCr v) := by
  cases h with
  | kept hnone => exact ⟨0, by omega, hnone.asserts, nofun⟩
  | command v n hi hn hasserted => exact ⟨n, hn, hasserted.asserts, fun _ => .inr ⟨v, hi⟩⟩
  | data hport hasserted =>
    exact ⟨_, (Bool.toNat_le _).trans (by decide), hasserted.asserts, fun _ => .inl hport⟩
  | lowered _ hasserts => exact ⟨0, by omega, hasserts.trans (List.append_nil _).symm, nofun⟩

theorem OutputEffect.dataPort_asserts (hport : isDataPort i = true) :
    t.asserts = s.asserts ∨
      (t.asserts = s.asserts ++ [s.irqLine] ∧ s.imr.rdmaInte = true ∧ t.remoteBytes = 0#16) := by
  cases h with
  | kept hnone => exact .inl (hnone.asserts.trans (List.append_nil _))
  | command v n hi =>
    rw [hi, isDataPort_wrCr] at hport
    cases hport
  | data _ hasserted =>
    have hcases := hasserted.asserts_cases
    rwa [Bool.and_eq_true, beq_iff_eq] at hcases
  | lowered _ hasserts => exact .inl hasserts

theorem OutputEffect.sent :
    t.sent = s.sent ∨ (∃ v, i = .wrCr v) ∧ t.sent = s.sent ++ [transmitRegion s] := by
  cases h with
  | command v n hi _ _ hsent => exact hsent.imp_right fun hsent => ⟨⟨v, hi⟩, hsent⟩
  | kept _ hsent | data _ _ hsent | lowered _ _ _ hsent => exact .inl hsent

/-- The level follows the assertion log, or an ISR write or a reset lowered it. -/
theorem OutputEffect.irqLevel :
    (t.irqLevel = true ↔ s.irqLevel = true ∨ s.asserts.length < t.asserts.length) ∨
    (t.irqLevel = false ∧ t.asserts = s.asserts ∧ (i = .rdReset ∨ ∃ v, i = .wrP0Isr v ∧ maskedStatus t = 0#8)) := by
  cases h with
  | kept hasserted | command _ _ _ _ hasserted | data _ hasserted => exact .inl hasserted.irqLevel_iff
  | lowered hi hasserts hlevel => exact .inr ⟨hlevel, hasserts, hi⟩

end

/-! ### The obligations -/

/-- Settles O50: `exec_outputEffect` says what each access appends to the logs, the equations of the engines what they
append; a reset writes neither log. -/
theorem assertionsAreLoggedAndNeverWithdrawn : Obligations.AssertionsAreLoggedAndNeverWithdrawn := by
  refine ⟨fun i s t h => ?access, fun s bytes => ?frame, fun s => ?completion,
    fun s mac irq => ⟨rfl, rfl, rfl, rfl⟩⟩
  case access =>
    have heffect := exec_outputEffect h
    exact ⟨heffect.asserts, heffect.dataPort_asserts, heffect.sent⟩
  case frame => simp only [receive_eq, Bool.and_eq_true, and_self]
  case completion => simp only [txComplete_eq, Bool.and_eq_true, Bool.not_eq_true', and_self]

/-- Settles O51: without a lowering the level is 1 exactly where it was or the log grew (`Asserted.irqLevel_iff`), and a
lowering appends nothing to the log. -/
theorem interruptLevelFollowsAssertions : Obligations.InterruptLevelFollowsAssertions := by
  refine ⟨fun i s t h => ?access, assertIrq_eq, fun v s => ⟨_, rfl, rfl, rfl⟩⟩
  case access =>
    obtain hfollows | ⟨hlevel, hasserts, hi⟩ := (exec_outputEffect h).irqLevel
    · refine ⟨hfollows.1, fun hgrew => hfollows.2 (.inr hgrew), fun hbefore hafter => ?_⟩
      exact absurd ((hfollows.2 (.inl hbefore)).symm.trans hafter) (by decide)
    · rw [hlevel, hasserts]
      exact ⟨nofun, fun hgrew => absurd hgrew (lt_irrefl _), fun _ _ => hi⟩

end Sys2Proof.Machine
